-- ==== Sys2Proof/Word.lean ====
section
/-! DEFINITION. The word of program memory and the byte of a post, with their plainest arithmetic (spec 00_scope 4.4, 08 R155). -/

namespace Sys2Proof

/-- 16 bits, the unit of program memory (00_scope 4.4). -/
abbrev Word := BitVec 16

/-- One payload byte of a post (08 R155). -/
abbrev Byte := BitVec 8

/-- Bits 15 to 8 of a word. -/
def Word.hi (w : Word) : Nat := w.toNat / 256

/-- Bits 7 to 0 of a word. -/
def Word.lo (w : Word) : Nat := w.toNat % 256

/-- The word with the given high and low byte. -/
def Word.ofBytes (h l : Nat) : Word := BitVec.ofNat 16 (h * 256 + l)

end Sys2Proof
end

