-- ==== Sys2Proof/Syntax.lean ====
section
/-! DEFINITION. The commands of the JU4820: one constructor of Instr for each row of spec/opcode_table.json, and the types of their operands. -/

namespace Sys2Proof

/-- A block of cells given by inclusive ranges (01 R1); a post may carry any byte in each place (08 R156). -/
structure Box where
  x0 : Nat
  x1 : Nat
  y0 : Nat
  y1 : Nat
  z0 : Nat
  z1 : Nat
  deriving DecidableEq, Repr

/-- A claim key: flyer and tag (00_scope 4.2). -/
structure Key where
  flyer : Nat
  tag : Nat
  deriving DecidableEq, Repr

/-- The axis states (05, summary table). -/
inductive AxisState where
  | unconfigured | parked | poised | holding | recovery | armed | flying | stopping | faulted | locked
  deriving DecidableEq, Repr

/-- The register states (01 R18). -/
inductive RegisterState where
  | syncing | current | stale
  deriving DecidableEq, Repr

/-- The fault kinds of the axis controller (05 R106). -/
inductive FaultKind where
  | estop | drive | overload | brake | follow | slack | limit | deaf
  deriving DecidableEq, Repr

/-- A set of fault kinds, each held at most once (05 R106, 08 R155). -/
structure FaultSet where
  estop : Bool
  drive : Bool
  overload : Bool
  brake : Bool
  follow : Bool
  slack : Bool
  limit : Bool
  deaf : Bool
  deriving DecidableEq, Repr

/-- Brake command and brake feedback (05 R97, R105). -/
inductive Brake where
  | set | released
  deriving DecidableEq, Repr

/-- The winch inputs as read at the opening of a sample (05 R97). -/
structure WinchInputs where
  haul : Int
  load : Int
  feedback : Brake
  upper : Bool
  lower : Bool
  driveFault : Bool
  estop : Bool
  jogUp : Bool
  jogDown : Bool
  deriving DecidableEq, Repr

/-- The contents of a PRESENCE (06 R125, 08 R160). An axis or register code without a meaning is none; an absent run segment is none. -/
structure Presence where
  axis : Option AxisState
  reg : Option RegisterState
  flyer : Nat
  activeShow : Nat
  generation : Word
  runSegment : Option Nat
  stepIndex : Nat
  haul : Int
  load : Int
  faults : FaultSet
  showStop : Bool
  swapPending : Bool
  swapping : Bool
  locked : Bool
  bankForced : Bool
  deriving DecidableEq, Repr

/-- The contents of a NOTICE (08 R162); an absent segment is none. -/
structure Notice where
  code : Nat
  subject : Nat
  flyer : Nat
  segment : Option Nat
  detail : Nat
  deriving DecidableEq, Repr

/-- One frame as it stands on the line after its start bit, less its check (08 R152): class, kind number and payload bytes. -/
structure RawPost where
  cls : Nat
  kind : Nat
  payload : List Byte
  deriving DecidableEq, Repr

/-- Another station's entry in a contention: its post's class and its number (07 R137). -/
structure Contender where
  cls : Nat
  sender : Nat
  deriving DecidableEq, Repr

/-- Why a station drove the spoil slot of a post (07 R138, R139). -/
inductive SpoilCause where
  | checkDiffers   -- the computed check differs from the carried one
  | longLength     -- the length field is above 16
  | badSender      -- the sender field is above 47
  | coding         -- a coding fault inside the post, or the post cut short
  | readBack       -- the sender read a level other than the one it drove (R138)
  deriving DecidableEq, Repr

/-- What a post says: its kind and its payload fields (08 R154 to R162). Optional bytes sent as 255 are kept as sent in CUE, HALT and SWAP. -/
inductive Post where
  | halt (scope reason : Nat)
  | clearStop
  | claim (key : Key) (box : Box)
  | release (key : Key)
  | tableStart (requester : Nat) (generation : Word) (count : Nat)
  | tableEntry (requester index : Nat) (key : Key) (box : Box)
  | tableEnd (requester count : Nat)
  | cue (flyer showNo segment reps trigStation trigSegment delay : Nat)
  | drop (flyer showNo segment : Nat)
  | ready (flyer showNo segment : Nat) (members : List Nat)
  | unready (flyer showNo segment : Nat)
  | done (flyer segment reps : Nat)
  | cut (flyer segment remaining step reason : Nat)
  | presence (p : Presence)
  | notice (n : Notice)
  | ack (target : Nat) (kinds : FaultSet)
  | lock (target : Nat) (flags : Byte) (code : Word)
  | sync (requester responder : Nat)
  | swap (target : Nat)
  | verify (target : Nat)
  | verified (showNo result segment : Nat)
  | loadAim (target area index : Nat)
  | loadData (target : Nat) (words : List Word)
  | loadCommit (target : Nat)
  deriving DecidableEq, Repr

/-- The commands the block takes, one for each row of spec/opcode_table.json. A delivery carries its sender's station number (a delivered post's sender is 0-47, 07 R139) and its payload fields. -/
inductive Instr where
  | startSequence (strap : Fin 32) (bankPin : Bool) (inputs : WinchInputs)
  | restartAssert
  | axisSample (inputs : WinchInputs)
  | stepEnd
  | brakeConfirmationExpiry
  | postBegin (others : List Contender)
  | postSpoiled (finding : Option SpoilCause)
  | unfittingPost (sender : Fin 48) (raw : RawPost)
  | halt (sender : Fin 48) (scope reason : Nat)
  | clearStop (sender : Fin 48)
  | claim (sender : Fin 48) (key : Key) (box : Box)
  | release (sender : Fin 48) (key : Key)
  | sync (sender : Fin 48) (requester responder : Nat)
  | tableStart (sender : Fin 48) (requester : Nat) (generation : Word) (count : Nat)
  | tableEntry (sender : Fin 48) (requester index : Nat) (key : Key) (box : Box)
  | tableEnd (sender : Fin 48) (requester count : Nat)
  | cue (sender : Fin 48) (flyer showNo segment reps trigStation trigSegment delay : Nat)
  | drop (sender : Fin 48) (flyer showNo segment : Nat)
  | ready (sender : Fin 48) (flyer showNo segment : Nat) (members : List Nat)
  | unready (sender : Fin 48) (flyer showNo segment : Nat)
  | done (sender : Fin 48) (flyer segment reps : Nat)
  | cut (sender : Fin 48) (flyer segment remaining step reason : Nat)
  | presence (sender : Fin 48) (p : Presence)
  | notice (sender : Fin 48) (n : Notice)
  | ack (sender : Fin 48) (target : Nat) (kinds : FaultSet)
  | lock (sender : Fin 48) (target : Nat) (flags : Byte) (code : Word)
  | unlock (sender : Fin 48) (target : Nat) (flags : Byte) (code : Word)
  | master (sender : Fin 48) (target : Nat) (flags : Byte) (code : Word)
  | swap (sender : Fin 48) (target : Nat)
  | verify (sender : Fin 48) (target : Nat)
  | verified (sender : Fin 48) (showNo result segment : Nat)
  | loadAim (sender : Fin 48) (target area index : Nat)
  | loadData (sender : Fin 48) (target : Nat) (words : List Word)
  | loadCommit (sender : Fin 48) (target : Nat)
  | lapse (station : Fin 48)
  | presenceTimerExpiry
  | lineOffTimerExpiry
  | joinSilenceExpiry
  | aloneWindowExpiry
  | attemptTimerExpiry
  | retryTimerExpiry
  | readyWaitExpiry
  | spaceWaitExpiry
  | chainDelayExpiry
  | takeCue
  | resync
  | reClaim
  | swapBegin
  | recordWriteCompletion
  | swapFlagWriteCompletion
  | bankCopySliceCompletion
  | loadCommitCompletion
  | verifySliceCompletion
  | lineIdleSeen
  deriving DecidableEq, Repr

end Sys2Proof
end

