-- ==== Sys2Proof/Config.lean ====
section
/-! DEFINITION. What is fixed for one station while it runs (the configuration record's fields, 11 R187), the limits and times the spec states, and the free values it leaves open. -/

namespace Sys2Proof

/-- A fixed zone: a box and the one flyer who may enter it, if any (01 R2). -/
structure Zone where
  box : Box
  exempt : Option Nat
  deriving DecidableEq, Repr

/-- The fields of a valid configuration record (11 R187). -/
structure StationConfig where
  flyer : Nat
  members : List Nat
  skewLimit : Nat
  maxHaul : Nat
  groundBand : Nat
  speedLimit : Nat
  accelLimit : Nat
  stopDecel : Nat
  slackThreshold : Nat
  overloadThreshold : Nat
  followLimit : Nat
  zones : List Zone
  masterCode : Word
  deriving DecidableEq, Repr

/-- The configuration of no flyer, read only where a station has none (a listen-only station acts on no post). -/
def StationConfig.empty : StationConfig :=
  ⟨0, [], 0, 0, 0, 0, 0, 0, 0, 0, 0, [], 0⟩

namespace Config

/-- Claim table entries across the rig, and per flyer (01 R4). -/
def maxEntries : Nat := 24
def maxPerFlyer : Nat := 4
/-- Posts in the pending change list (02 R37). -/
def maxChanges : Nat := 8
/-- Requesters in a responder's wait list (02 R31). -/
def maxWaiting : Nat := 4
/-- Entries of the cue queue (03 R45). -/
def maxCues : Nat := 8
/-- Posts of the outgoing queue (07 R147). -/
def maxPosts : Nat := 8
/-- The value at which a spoil count acts (07 R142, R144). -/
def spoilLimit : Nat := 8
/-- Failed attempts that end a round (02 R39). -/
def maxFailed : Nat := 3
/-- Words of the load buffer (09 R169). -/
def maxBuffer : Nat := 16
/-- Words of a bank, words of a slice and the number of slices (09 R163, R167). -/
def bankWords : Nat := 2483
def sliceWords : Nat := 64
def sliceCount : Nat := 39
/-- The brake confirmation timer, in samples (05 R105). -/
def brakeSamples : Nat := 200
/-- The jog speed in thousandths of mm/s: 50 mm/s (05 R117). -/
def jogDemand : Int := 50000

/-- Times in ms: attempt timer and retry timer (02 R26), alone window (02 R29), ready wait (03 R54), space wait (03 R62), lapse (06 R120), presence timer (06 R126), LINE-OFF timer (07 R143), silence (07 R135). -/
def attemptMs : Nat := 1000
def retryMs : Nat := 5000
def aloneMs : Nat := 250
def readyWaitMs : Nat := 15000
def spaceWaitMs : Nat := 10000
def lapseMs : Nat := 120
def presenceMs : Nat := 40
def lineOffMs : Nat := 250
def silenceMs : Nat := 100

/-- FREE VALUE (log entry 7): the word at address `a` after the `n`-th write that a restart cut short (09 R167: as the memory leaves it). -/
opaque tornWord : Nat → Nat → Word

/-- FREE VALUE (log entry 8): what is written where a clear record's contents are not stated (09 R163: any value that does not read as set). -/
opaque clearAloftLow : Nat → Byte
opaque clearAloftWord : Nat → Nat → Word
opaque clearLockMark : Nat → Word
opaque clearLockCode : Nat → Word

end Config

end Sys2Proof
end

