-- ==== Sys2Proof/Machine/State.lean ====
section
/-! DEFINITION. The state of the JU4820: every register, table, queue, timer and record the spec gives its nine blocks, and the state at reset. -/

namespace Sys2Proof.Machine

/-- Raised by no command: the spec gives every row of its table an effect in every state (the fault kinds of chapter 5 are state, not stops). Safe. -/
inductive Fault where
  deriving DecidableEq, Repr

/-- `notModelled`: raised by an arm of exec whose row has no meaning yet (none is left). Safe. -/
inductive Refusal where
  | notModelled (mnemonic : String)
  deriving DecidableEq, Repr

/-- A timer: stopped, or running with the time it was loaded with, in ms (log entry 3). -/
abbrev Timer := Option Nat

/-! ### Start-up loader -/

/-- Whether the part runs, or power is off or the restart line asserted (11 R185). -/
inductive Power where
  | held | running
  deriving DecidableEq, Repr

/-! ### Airspace register (01) -/

/-- An entry of the claim table; its sequence position is its place in the list, from 1 (R4, R5). -/
structure Entry where
  key : Key
  box : Box
  deriving DecidableEq, Repr

/-- The airspace register but for the sync protocol (01 R2, R4, R16, R18). -/
structure AirRegister where
  zones : List Zone
  table : List Entry
  generation : Word
  state : RegisterState
  deriving DecidableEq, Repr

/-! ### Sync protocol (02) -/

/-- The phase of the attempt record (R26). -/
inductive Phase where
  | idle | posting | awaiting | copying | resting
  deriving DecidableEq, Repr

/-- The alone window (R26, R29). -/
inductive AloneWindow where
  | notBegun | running | expired
  deriving DecidableEq, Repr

/-- A live change held during a copy, with its full contents (R37). -/
inductive Change where
  | claim (sender : Nat) (key : Key) (box : Box)
  | release (sender : Nat) (key : Key)
  deriving DecidableEq, Repr

/-- A responder's snapshot (R32). -/
structure Snapshot where
  generation : Word
  entries : List Entry
  deriving DecidableEq, Repr

/-- The answer in progress, for the requester at the head of the wait list; its snapshot is none until its TABLE-START begins (R31, R32). -/
structure Answer where
  snapshot : Option Snapshot
  deriving DecidableEq, Repr

/-- The requester's attempt record and pending change list, and the responder's wait list and answer. The list is open exactly in phase copying (R26). -/
structure SyncUnit where
  phase : Phase
  responder : Option Nat
  failed : Nat
  expected : Nat
  received : Nat
  attemptTimer : Timer
  retryTimer : Timer
  alone : AloneWindow
  winchSeen : Bool
  beenCurrent : Bool
  changes : List Change
  waitList : List Nat
  answer : Option Answer
  deriving DecidableEq, Repr

/-! ### Cue unit (03) -/

/-- An entry of the cue queue (R45); the trigger is a station and a segment. -/
structure CueEntry where
  caller : Nat
  flyer : Nat
  showNo : Nat
  segment : Nat
  reps : Nat
  trigger : Option (Nat × Nat)
  delay : Nat
  seen : Bool
  deriving DecidableEq, Repr

/-- The phase of the current cue (R46). -/
inductive CuePhase where
  | armed | running
  deriving DecidableEq, Repr

/-- The current cue (R46); `spaceBegun` is set once its space wait has started (R62). -/
structure CurrentCue where
  phase : CuePhase
  caller : Nat
  showNo : Nat
  segment : Nat
  reps : Nat
  runKey : Key
  box : Box
  landing : Bool
  spaceBegun : Bool
  deriving DecidableEq, Repr

/-- The held key and held box (R73). -/
structure Held where
  key : Key
  box : Box
  deriving DecidableEq, Repr

/-- What a queued post of the cue unit is for, where its contents do not say (log entry 21). -/
inductive PostUse where
  | plain      -- nothing more than its contents
  | forCue     -- the CLAIM of the armed cue (R53, R62)
  | spaceWait  -- the CUT of an expired space wait (R63)
  deriving DecidableEq, Repr

/-- A post the line interface reported as discarded and the cue unit owes (R70). -/
structure OwedPost where
  post : Post
  use : PostUse
  deriving DecidableEq, Repr

/-- Whether the set lead owes a re-claim (R74): not; owed with its CLAIM not yet enqueued; CLAIM enqueued; CLAIM refused (log entry 20). -/
inductive Reclaim where
  | notOwed | due | posted | refused
  deriving DecidableEq, Repr

/-- The cue unit (R45 to R75). `slots` is the set ready table: the show and segment each member last announced. -/
structure CueUnit where
  queue : List CueEntry
  current : Option CurrentCue
  held : Option Held
  slots : List (Option (Nat × Nat))
  showStop : Bool
  chainDelay : Timer
  readyWait : Timer
  spaceWait : Timer
  owedRelease : Option Key
  owed : List OwedPost
  reclaim : Reclaim
  deriving DecidableEq, Repr

/-! ### Profile engine (04) -/

inductive EngineState where
  | idle | playing | settling
  deriving DecidableEq, Repr

/-- The mode of a segment as played (R76); a record's mode NONE is an absent segment (09 R164). -/
inductive Mode where
  | once | back | swing
  deriving DecidableEq, Repr

inductive Direction where
  | forward | back
  deriving DecidableEq, Repr

/-- The playing fields copied at begin (R76, R78): for ONCE and RETURN `n` is the count, for SWING `n` and `m` are its two lengths; the step time is in ms. -/
structure Play where
  mode : Mode
  row : Nat
  first : Nat
  n : Nat
  m : Nat
  stepTime : Nat
  deriving DecidableEq, Repr

/-- The profile engine (R76). Demand is in thousandths of mm/s, planned haul in millionths of mm, exactly (R77). -/
structure Engine where
  state : EngineState
  play : Option Play
  row : Nat
  col : Nat
  dir : Direction
  stepsLeft : Nat
  stepTimer : Nat
  stepIndex : Nat
  remaining : Nat
  target : Int
  demand : Int
  planned : Int
  deriving DecidableEq, Repr

/-! ### Axis controller (05) -/

/-- The axis controller. `ramp` is the planned haul of a STOPPING ramp, whose demand is `demand`; `limits` are the upper and lower limit inputs of the sample before (R110); `brakeTimer` counts samples, 0 once expired (R105). -/
structure Axis where
  state : AxisState
  origin : Option AxisState
  faults : FaultSet
  demand : Int
  brake : Brake
  brakeTimer : Option Nat
  ramp : Option Int
  inputs : WinchInputs
  limits : Option (Bool × Bool)
  deriving DecidableEq, Repr

/-! ### Roster and presence (06) -/

/-- The agree mark (02 R41). -/
inductive Mark where
  | agrees | disagrees | unmarked
  deriving DecidableEq, Repr

/-- A roster entry (R120). -/
structure RosterEntry where
  present : Bool
  lapse : Timer
  seen : Bool
  flyer : Option Nat
  axis : Option AxisState
  reg : Option RegisterState
  generation : Option Word
  runSegment : Option Nat
  stepIndex : Option Nat
  showStop : Option Bool
  mark : Mark
  deriving DecidableEq, Repr

/-- The roster, the presence timer (R126) and the skew reported flag (R130). -/
structure Roster where
  entries : Vector RosterEntry 48
  presenceTimer : Timer
  skewReported : Bool
  deriving DecidableEq, Repr

/-! ### Line interface (07) -/

inductive LineState where
  | joining | on | lineOff | deaf | listenOnly
  deriving DecidableEq, Repr

/-- How far a JOINING station is (R135): before the join step; waiting for the idle line; following posts. -/
inductive Watch where
  | notWatching | awaitIdle | following
  deriving DecidableEq, Repr

/-- A post of the outgoing queue with its age (R147). -/
structure OutPost where
  post : Post
  use : PostUse
  age : Nat
  deriving DecidableEq, Repr

/-- The PRESENCE of the presence slot: its age, and its contents once it has begun (R136, R147). -/
structure SlotPost where
  age : Nat
  stamped : Option Presence
  deriving DecidableEq, Repr

/-- One of the station's own posts: of the queue, by its age, or the one in the presence slot. -/
inductive OutRef where
  | queued (age : Nat)
  | slot
  deriving DecidableEq, Repr

/-- The post on the line (R136): the station's own, one of its own it has withdrawn (R149), or another station's. -/
inductive OnLine where
  | own (ref : OutRef)
  | withdrawn
  | other
  deriving DecidableEq, Repr

/-- The line interface (R134 to R151). `reports` are the discards of R148 not yet acted on (log entry 10). -/
structure Line where
  state : LineState
  watch : Watch
  silence : Timer
  queue : List OutPost
  slot : Option SlotPost
  further : Bool
  retry : Option OutRef
  txSpoil : Nat
  rxSpoil : Nat
  offTimer : Timer
  onLine : Option OnLine
  nextAge : Nat
  reports : List OutPost
  deriving DecidableEq, Repr

/-! ### Program store (09) -/

/-- A word of program memory at its address (log entry 6). -/
abbrev MemCell := Nat × Word

/-- The serial program memory: the listed words, addresses strictly rising, none equal to the blank word (R163). -/
abbrev Memory := List MemCell

inductive Bank where
  | a | b
  deriving DecidableEq, Repr

/-- The working copy (R166): the active bank's 2,483 words, or none, and its valid mark. -/
structure WorkingCopy where
  words : List Word
  valid : Bool
  deriving DecidableEq, Repr

/-- The areas of a bank a LOAD can aim at (R163, 08 R161). -/
inductive Area where
  | header | segments | profile
  deriving DecidableEq, Repr

/-- The aloft record (R163): clear, or set with the flyer byte, the key word and the three box words. -/
inductive AloftRecord where
  | clear
  | set (flyer : Nat) (key b0 b1 b2 : Word)
  deriving DecidableEq, Repr

/-- A record's stored value and target (R176). -/
structure Record (α : Type) where
  stored : α
  target : α
  deriving DecidableEq, Repr

/-- A request for the memory port (R167). -/
inductive MemRequest where
  | aloftWrite
  | lockWrite
  | flagWrite
  | copySlice (i : Nat)
  | commit
  | verifySlice (i : Nat)
  deriving DecidableEq, Repr

/-- The operation in flight, with what it writes; a verify slice may have been withdrawn, and its result is then discarded (R167, R172). -/
inductive MemOp where
  | aloftWrite (v : AloftRecord)
  | lockWrite (v : Option Word)
  | flagWrite (v : Word)
  | copySlice (i : Nat)
  | commit (cells : List MemCell)
  | verifySlice (i : Nat) (discarded : Bool)
  deriving DecidableEq, Repr

/-- The program store. `copy` is the slices of a bank copy read so far while SWAPPING; `verify` the words of a running verify read so far; `swapPending` the recorded SWAP's sender. The lock record's value is a code when set (10 R178). -/
structure Store where
  mem : Memory
  pinForced : Bool
  active : Option Bank
  working : WorkingCopy
  verified : Bool
  lastVerified : Nat
  area : Area
  index : Nat
  buffer : List MemCell
  commit : Option (List MemCell)
  verify : Option (List Word)
  swapPending : Option Nat
  copy : Option (List Word)
  aloft : Record AloftRecord
  lockRec : Record (Option Word)
  flag : Record Word
  waiting : List MemRequest
  inFlight : Option MemOp
  deriving DecidableEq, Repr

/-! ### The whole part -/

/-- The lock unit's copy of the lock record: clear, or set with its code (10 R178). -/
structure LockUnit where
  copy : Option Word
  deriving DecidableEq, Repr

end Sys2Proof.Machine

namespace Sys2Proof.Machine

/-- The state of one station. `freeCount` numbers the free values taken (log entry 7); `pending` is the queue of commands, first in, first out. -/
structure State where
  power : Power
  strap : Nat
  cfg : Option StationConfig
  reg : AirRegister
  sync : SyncUnit
  cue : CueUnit
  engine : Engine
  axis : Axis
  roster : Roster
  line : Line
  store : Store
  lock : LockUnit
  freeCount : Nat
  pending : List Instr
  deriving DecidableEq, Repr

/-! ### Start values -/

/-- The empty fault set (05 R119). -/
def noFaults : FaultSet := ⟨false, false, false, false, false, false, false, false⟩

/-- What the winch inputs hold before the join step reads them (log entry 25). -/
def noInputs : WinchInputs := ⟨0, 0, .set, false, false, false, false, false, false⟩

def AirRegister.start : AirRegister := ⟨[], [], 0, .syncing⟩

/-- 02 R44. -/
def SyncUnit.start : SyncUnit :=
  ⟨.idle, none, 0, 0, 0, none, none, .notBegun, false, false, [], [], none⟩

/-- 03 R75. -/
def CueUnit.start : CueUnit := ⟨[], none, none, [], false, none, none, none, none, [], .notOwed⟩

/-- 04 R95. -/
def Engine.start : Engine := ⟨.idle, none, 0, 0, .forward, 0, 0, 0, 0, 0, 0, 0⟩

/-- 05 R119, before the axis state is chosen. -/
def Axis.start : Axis := ⟨.unconfigured, none, noFaults, 0, .set, none, none, noInputs, none⟩

/-- 06 R133. -/
def RosterEntry.absent : RosterEntry :=
  ⟨false, none, false, none, none, none, none, none, none, none, .unmarked⟩

def Roster.start : Roster := ⟨Vector.replicate 48 RosterEntry.absent, none, false⟩

/-- 07 R151. -/
def Line.start : Line :=
  ⟨.joining, .notWatching, none, [], none, false, none, 0, 0, none, none, 0, []⟩

/-- 09 R177, over the memory as it stands. What the records' stored values and targets hold before they are read, and in a listen-only station, whose column says "Not read", the rules do not give: here clear, clear and FFFFh, the model's choice (log entry 37). -/
def Store.start (mem : Memory) : Store :=
  { mem := mem, pinForced := false, active := none, working := ⟨[], false⟩, verified := false,
    lastVerified := 0, area := .header, index := 0, buffer := [], commit := none, verify := none,
    swapPending := none, copy := none, aloft := ⟨.clear, .clear⟩, lockRec := ⟨none, none⟩,
    flag := ⟨0xFFFF, 0xFFFF⟩, waiting := [], inFlight := none }

/-- 10 R184. -/
def LockUnit.start : LockUnit := ⟨none⟩

/-- The part held at rest, every block at its start value, over the given program memory (11 R185: brake set, demand 0, line undriven, port idle; what no rule gives is log entries 5, 25 and 37). -/
def State.held (mem : Memory) (freeCount : Nat) (pending : List Instr) : State :=
  ⟨.held, 0, none, .start, .start, .start, .start, .start, .start, .start, Store.start mem, .start, freeCount, pending⟩

/-- The machine right after reset: held at rest before its start sequence, with blank program memory and no command waiting (log entry 5). -/
def State.reset : State := State.held [] 0 []

end Sys2Proof.Machine
end

