-- ==== Sys2Proof/Machine/Operands.lean ====
section
/-! DEFINITION. The operand forms of the commands: kinds, classes and lengths of posts (08 R154), the codes of their fields (R155 to R162), and which field values make a post ill-coded. -/

namespace Sys2Proof.Machine

/-- The value of an optional byte that is absent, and of a station field that means ALL (08 R155). -/
def absentByte : Nat := 255

/-- Kind numbers (08 R154). -/
def Post.kind : Post → Nat
  | .halt .. => 0 | .clearStop => 1 | .claim .. => 2 | .release .. => 3 | .tableStart .. => 4
  | .tableEntry .. => 5 | .tableEnd .. => 6 | .cue .. => 7 | .drop .. => 8 | .ready .. => 9
  | .unready .. => 10 | .done .. => 11 | .cut .. => 12 | .presence .. => 13 | .notice .. => 14
  | .ack .. => 15 | .lock .. => 16 | .sync .. => 17 | .swap .. => 18 | .verify .. => 19
  | .verified .. => 20 | .loadAim .. => 21 | .loadData .. => 21 | .loadCommit .. => 21

/-- The class assigned to a kind number; 22 to 31 are no kind (08 R154). -/
def kindClass (k : Nat) : Option Nat :=
  if k ≤ 1 then some 0
  else if k ≤ 6 then some 1
  else if k ≤ 12 then some 2
  else if k ≤ 16 then some 3
  else if k ≤ 21 then some 4
  else none

/-- The class a station sends a post with (08 R152, R154). -/
def Post.cls (p : Post) : Nat := (kindClass (Post.kind p)).getD 0

/-- The payload lengths a kind may carry; READY and LOAD also depend on what they carry (08 R154, R161). -/
def kindLengths : Nat → List Nat
  | 0 => [2] | 1 => [0] | 2 => [8] | 3 => [2] | 4 => [4] | 5 => [10] | 6 => [2] | 7 => [8] | 8 => [4]
  | 9 => [6, 7, 8, 9] | 10 => [4] | 11 => [3] | 12 => [6] | 13 => [16] | 14 => [6] | 15 => [2]
  | 16 => [4] | 17 => [2] | 18 => [1] | 19 => [1] | 20 => [4] | 21 => [5, 4, 6, 8, 10, 12, 14, 2]
  | _ => []

/-- Axis state codes (08 R160). -/
def axisCode : AxisState → Nat
  | .unconfigured => 0 | .parked => 1 | .poised => 2 | .holding => 3 | .recovery => 4
  | .armed => 5 | .flying => 6 | .stopping => 7 | .faulted => 8 | .locked => 9

/-- The axis state of a code; 10 to 15 are recorded as none (08 R160). -/
def axisOfCode : Nat → Option AxisState
  | 0 => some .unconfigured | 1 => some .parked | 2 => some .poised | 3 => some .holding
  | 4 => some .recovery | 5 => some .armed | 6 => some .flying | 7 => some .stopping
  | 8 => some .faulted | 9 => some .locked | _ => none

/-- Register state codes (08 R160). -/
def registerCode : RegisterState → Nat
  | .syncing => 0 | .current => 1 | .stale => 2

/-- The register state of a code; 3 is recorded as none (08 R160). -/
def registerOfCode : Nat → Option RegisterState
  | 0 => some .syncing | 1 => some .current | 2 => some .stale | _ => none

/-- The reasons of a CUT (08 R159). -/
inductive CutReason where
  | halt | fault | drop | unready | space | claimLost | setMismatch | line
  deriving DecidableEq, Repr

def CutReason.code : CutReason → Nat
  | .halt => 0 | .fault => 1 | .drop => 2 | .unready => 3 | .space => 4 | .claimLost => 5
  | .setMismatch => 6 | .line => 7

/-- The reasons of a HALT (08 R161). -/
inductive HaltReason where
  | desk | estop | fault | lapse | skew | showStop
  deriving DecidableEq, Repr

def HaltReason.code : HaltReason → Nat
  | .desk => 0 | .estop => 1 | .fault => 2 | .lapse => 3 | .skew => 4 | .showStop => 5

/-- The NOTICE codes (08 R162). -/
inductive NoticeCode where
  | busy | queueFull | duplicate | showMismatch | noSegment | badReps | startMismatch | notLowering
  | showStop | locked | swapPending | setMismatch | bankInvalid | tooLate | flushed | badFlags
  | wrongCode | notAtRest | already | forced | unverified | overrun | diverged | syncFailed
  deriving DecidableEq, Repr

def NoticeCode.code : NoticeCode → Nat
  | .busy => 1 | .queueFull => 2 | .duplicate => 3 | .showMismatch => 4 | .noSegment => 5
  | .badReps => 6 | .startMismatch => 7 | .notLowering => 8 | .showStop => 9 | .locked => 10
  | .swapPending => 11 | .setMismatch => 12 | .bankInvalid => 13 | .tooLate => 14 | .flushed => 15
  | .badFlags => 16 | .wrongCode => 17 | .notAtRest => 18 | .already => 19 | .forced => 20
  | .unverified => 21 | .overrun => 22 | .diverged => 23 | .syncFailed => 24

/-- The results a VERIFIED reports (08 R161, 09 R165). -/
inductive VerifyResult where
  | ok
  | badCheck
  | badSegment (segment : Nat)
  | abandoned
  deriving DecidableEq, Repr

def VerifyResult.code : VerifyResult → Nat
  | .ok => 0 | .badCheck => 1 | .badSegment _ => 2 | .abandoned => 3

/-- The segment byte of a VERIFIED (08 R161). -/
def VerifyResult.segmentByte : VerifyResult → Nat
  | .badSegment s => s
  | _ => absentByte

/-- The area an AIM names (08 R161). -/
def areaOfCode : Nat → Option Area
  | 0 => some .header | 1 => some .segments | 2 => some .profile | _ => none

/-- A HALT's scope takes in flyer `f`: it is that flyer or ALL (03 R67). -/
def scopeHits (scope f : Nat) : Bool := scope == f || scope == absentByte

/-- A HALT whose scope is 0 or 16-254 is ill-coded (08 R161). -/
def haltIllCoded (scope : Nat) : Bool := !((1 ≤ scope && scope ≤ 15) || scope == absentByte)

/-- A CUE whose trigger station lies in 48-254, or with a trigger present and a trigger segment above 47, is ill-coded (08 R158). -/
def cueIllCoded (trigStation trigSegment : Nat) : Bool :=
  !(trigStation == absentByte || (trigStation ≤ 47 && trigSegment ≤ 47))

/-- The trigger a CUE carries (08 R158). -/
def cueTrigger (trigStation trigSegment : Nat) : Option (Nat × Nat) :=
  if trigStation ≤ 47 then some (trigStation, trigSegment) else none

/-- A READY whose member count lies outside 1-4 is ill-coded (08 R159). -/
def readyIllCoded (members : List Nat) : Bool := !(1 ≤ members.length && members.length ≤ 4)

/-- An AIM whose area byte is not 0, 1 or 2 is ill-coded (08 R161). -/
def aimIllCoded (area : Nat) : Bool := (areaOfCode area).isNone

/-- A segment number a NOTICE carries: above 47 it is absent (08 R162). -/
def noticeSegment (segment : Nat) : Option Nat := if segment ≤ 47 then some segment else none

/-- A flyer as a roster entry records it: outside 1-15 it is none (08 R160). -/
def rosterFlyer (f : Nat) : Option Nat := if 1 ≤ f && f ≤ 15 then some f else none

end Sys2Proof.Machine
end

