-- ==== Sys2Proof/Machine/Flags.lean ====
section
/-! DEFINITION. The flag bytes of the posts (fault set 08 R155, PRESENCE flags R160, LOCK action flags 10 R178) and the set operations of the fault latch set (05 R106). -/

namespace Sys2Proof.Machine

/-- Bit `i` of a flag byte, as a number. -/
def flagBit (b : Bool) (i : Nat) : Nat := if b then 2 ^ i else 0

/-- Bit `i` of a number. -/
def hasBit (n i : Nat) : Bool := n / 2 ^ i % 2 == 1

/-- Whether a kind is in the set. -/
def FaultSet.has (f : FaultSet) : FaultKind → Bool
  | .estop => f.estop | .drive => f.drive | .overload => f.overload | .brake => f.brake
  | .follow => f.follow | .slack => f.slack | .limit => f.limit | .deaf => f.deaf

/-- The kinds of either set (05 R106: a detection adds its kind). -/
def FaultSet.union (f g : FaultSet) : FaultSet :=
  ⟨f.estop || g.estop, f.drive || g.drive, f.overload || g.overload, f.brake || g.brake,
   f.follow || g.follow, f.slack || g.slack, f.limit || g.limit, f.deaf || g.deaf⟩

/-- The kinds of `f` that are not in `g`. -/
def FaultSet.minus (f g : FaultSet) : FaultSet :=
  ⟨f.estop && !g.estop, f.drive && !g.drive, f.overload && !g.overload, f.brake && !g.brake,
   f.follow && !g.follow, f.slack && !g.slack, f.limit && !g.limit, f.deaf && !g.deaf⟩

def FaultSet.isEmpty (f : FaultSet) : Bool :=
  !(f.estop || f.drive || f.overload || f.brake || f.follow || f.slack || f.limit || f.deaf)

/-- The fault set byte (08 R155). -/
def FaultSet.toByte (f : FaultSet) : Nat :=
  flagBit f.estop 0 + flagBit f.drive 1 + flagBit f.overload 2 + flagBit f.brake 3
    + flagBit f.follow 4 + flagBit f.slack 5 + flagBit f.limit 6 + flagBit f.deaf 7

def FaultSet.ofByte (n : Nat) : FaultSet :=
  ⟨hasBit n 0, hasBit n 1, hasBit n 2, hasBit n 3, hasBit n 4, hasBit n 5, hasBit n 6, hasBit n 7⟩

/-- The flags byte of a PRESENCE; bits 7 to 5 are sent as 0 (08 R160). -/
def presenceFlags (p : Presence) : Nat :=
  flagBit p.showStop 0 + flagBit p.swapPending 1 + flagBit p.swapping 2 + flagBit p.locked 3
    + flagBit p.bankForced 4

/-- What the action flags of a LOCK post ask for (10 R178): bits 7 to 3 are not read. -/
inductive LockAction where
  | lock | unlock | master | bad
  deriving DecidableEq, Repr

/-- Exactly one of bits 0, 1 and 2 names the action; none or more than one is bad (10 R178). -/
def lockAction (flags : Byte) : LockAction :=
  match hasBit flags.toNat 0, hasBit flags.toNat 1, hasBit flags.toNat 2 with
  | true, false, false => .lock
  | false, true, false => .unlock
  | false, false, true => .master
  | _, _, _ => .bad

end Sys2Proof.Machine
end

