-- ==== Sys2Proof/Machine/Wire.lean ====
section
/-! DEFINITION. Posts as frames (08 R152 to R162): the payload of every kind byte by byte, the judgement of fitting and ill-coded posts, the check, and the frame a station sends. -/

namespace Sys2Proof.Machine

/-! ### Bytes -/

def byte (n : Nat) : Byte := BitVec.ofNat 8 n

/-- Two bytes, most significant first (08 R155). -/
def bytes2 (n : Nat) : List Byte := [byte (n / 256), byte (n % 256)]

def nat2 (h l : Byte) : Nat := h.toNat * 256 + l.toNat

/-- A signed value held in `w` bits as two's complement (08 R155). -/
def toTwos (w : Nat) (v : Int) : Nat := (v % (2 ^ w : Int)).toNat

def ofTwos (w : Nat) (n : Nat) : Int := if n < 2 ^ (w - 1) then (n : Int) else (n : Int) - 2 ^ w

/-- An optional byte (08 R155). -/
def optByte : Option Nat → Byte
  | some n => byte n
  | none => byte absentByte

def ofOptByte (b : Byte) : Option Nat := if b.toNat == absentByte then none else some b.toNat

def keyBytes (k : Key) : List Byte := [byte k.flyer, byte k.tag]

def boxBytes (b : Box) : List Byte := [byte b.x0, byte b.x1, byte b.y0, byte b.y1, byte b.z0, byte b.z1]

/-! ### Payloads -/

/-- The payload of a PRESENCE (08 R160). -/
def presenceBytes (p : Presence) : List Byte :=
  let a := match p.axis with
    | some a => axisCode a
    | none => 15
  let r := match p.reg with
    | some r => registerCode r
    | none => 3
  let h := toTwos 24 p.haul
  [byte (a * 16 + r), byte p.flyer] ++ bytes2 p.activeShow ++ bytes2 p.generation.toNat
    ++ [optByte p.runSegment] ++ bytes2 p.stepIndex
    ++ [byte (h / 65536), byte (h / 256 % 256), byte (h % 256)]
    ++ bytes2 (toTwos 16 p.load) ++ [byte (FaultSet.toByte p.faults), byte (presenceFlags p)]

/-- The payload of a post, byte 0 first (08 R156 to R162). -/
def payload : Post → List Byte
  | .halt scope reason => [byte scope, byte reason]
  | .clearStop => []
  | .claim k b => keyBytes k ++ boxBytes b
  | .release k => keyBytes k
  | .tableStart q g c => [byte q] ++ bytes2 g.toNat ++ [byte c]
  | .tableEntry q i k b => [byte q, byte i] ++ keyBytes k ++ boxBytes b
  | .tableEnd q c => [byte q, byte c]
  | .cue f sh sg n ts tg d => [byte f] ++ bytes2 sh ++ [byte sg, byte n, byte ts, byte tg, byte d]
  | .drop f sh sg => [byte f] ++ bytes2 sh ++ [byte sg]
  | .ready f sh sg ms => [byte f] ++ bytes2 sh ++ [byte sg, byte ms.length] ++ ms.map byte
  | .unready f sh sg => [byte f] ++ bytes2 sh ++ [byte sg]
  | .done f sg n => [byte f, byte sg, byte n]
  | .cut f sg n st r => [byte f, byte sg, byte n] ++ bytes2 st ++ [byte r]
  | .presence p => presenceBytes p
  | .notice n => [byte n.code, byte n.subject, byte n.flyer, optByte n.segment] ++ bytes2 n.detail
  | .ack t ks => [byte t, byte (FaultSet.toByte ks)]
  | .lock t fl c => [byte t, fl] ++ bytes2 c.toNat
  | .sync q r => [byte q, byte r]
  | .swap t => [byte t]
  | .verify t => [byte t]
  | .verified sh r sg => bytes2 sh ++ [byte r, byte sg]
  | .loadAim t a i => [byte t, byte 1, byte a] ++ bytes2 i
  | .loadData t ws => [byte t, byte 2] ++ ws.flatMap (fun w => bytes2 w.toNat)
  | .loadCommit t => [byte t, byte 3]

/-- Class, kind and payload of a station's post (08 R152, R154). -/
def encodePost (p : Post) : RawPost := ⟨Post.cls p, Post.kind p, payload p⟩

/-- The words of a DATA payload; an odd byte leaves none (08 R161). -/
def wordsOf : List Byte → Option (List Word)
  | [] => some []
  | [_] => none
  | h :: l :: t => (wordsOf t).map (BitVec.ofNat 16 (nat2 h l) :: ·)

/-- The PRESENCE of 16 bytes (08 R160); bits sent as 0 are not read. A run segment of 48-254 and a step index above 16,320, which no rule gives an effect, are taken as the numbers sent: the model's choice (log entry 36). -/
def presenceOf (ar fl s1 s0 g1 g0 rs i1 i0 h2 h1 h0 l1 l0 fs fg : Byte) : Presence :=
  { axis := axisOfCode (ar.toNat / 16), reg := registerOfCode (ar.toNat % 4), flyer := fl.toNat,
    activeShow := nat2 s1 s0, generation := BitVec.ofNat 16 (nat2 g1 g0),
    runSegment := ofOptByte rs, stepIndex := nat2 i1 i0,
    haul := ofTwos 24 (h2.toNat * 65536 + nat2 h1 h0), load := ofTwos 16 (nat2 l1 l0),
    faults := FaultSet.ofByte fs.toNat, showStop := hasBit fg.toNat 0,
    swapPending := hasBit fg.toNat 1, swapping := hasBit fg.toNat 2, locked := hasBit fg.toNat 3,
    bankForced := hasBit fg.toNat 4 }

/-- The fields of a payload of the given kind, none where its length does not suit the kind or a LOAD's operation byte is not 1, 2 or 3 (08 R154 to R162). -/
def parsePayload (kind : Nat) (bs : List Byte) : Option Post :=
  match kind, bs with
  | 0, [sc, r] => some (.halt sc.toNat r.toNat)
  | 1, [] => some .clearStop
  | 2, [f, t, a, b, c, d, e, g] =>
    some (.claim ⟨f.toNat, t.toNat⟩ ⟨a.toNat, b.toNat, c.toNat, d.toNat, e.toNat, g.toNat⟩)
  | 3, [f, t] => some (.release ⟨f.toNat, t.toNat⟩)
  | 4, [q, g1, g0, c] => some (.tableStart q.toNat (BitVec.ofNat 16 (nat2 g1 g0)) c.toNat)
  | 5, [q, i, f, t, a, b, c, d, e, g] =>
    some (.tableEntry q.toNat i.toNat ⟨f.toNat, t.toNat⟩
      ⟨a.toNat, b.toNat, c.toNat, d.toNat, e.toNat, g.toNat⟩)
  | 6, [q, c] => some (.tableEnd q.toNat c.toNat)
  | 7, [f, s1, s0, sg, n, ts, tg, d] =>
    some (.cue f.toNat (nat2 s1 s0) sg.toNat n.toNat ts.toNat tg.toNat d.toNat)
  | 8, [f, s1, s0, sg] => some (.drop f.toNat (nat2 s1 s0) sg.toNat)
  | 9, f :: s1 :: s0 :: sg :: c :: ms =>
    if ms.length = c.toNat then some (.ready f.toNat (nat2 s1 s0) sg.toNat (ms.map (·.toNat)))
    else none
  | 10, [f, s1, s0, sg] => some (.unready f.toNat (nat2 s1 s0) sg.toNat)
  | 11, [f, sg, n] => some (.done f.toNat sg.toNat n.toNat)
  | 12, [f, sg, n, t1, t0, r] => some (.cut f.toNat sg.toNat n.toNat (nat2 t1 t0) r.toNat)
  | 13, [ar, fl, s1, s0, g1, g0, rs, i1, i0, h2, h1, h0, l1, l0, fs, fg] =>
    some (.presence (presenceOf ar fl s1 s0 g1 g0 rs i1 i0 h2 h1 h0 l1 l0 fs fg))
  | 14, [c, sb, f, sg, d1, d0] =>
    some (.notice ⟨c.toNat, sb.toNat, f.toNat, ofOptByte sg, nat2 d1 d0⟩)
  | 15, [t, ks] => some (.ack t.toNat (FaultSet.ofByte ks.toNat))
  | 16, [t, fl, c1, c0] => some (.lock t.toNat fl (BitVec.ofNat 16 (nat2 c1 c0)))
  | 17, [q, r] => some (.sync q.toNat r.toNat)
  | 18, [t] => some (.swap t.toNat)
  | 19, [t] => some (.verify t.toNat)
  | 20, [s1, s0, r, sg] => some (.verified (nat2 s1 s0) r.toNat sg.toNat)
  | 21, t :: op :: rest =>
    match op.toNat, rest with
    | 1, [a, i1, i0] => some (.loadAim t.toNat a.toNat (nat2 i1 i0))
    | 2, ws => if ws.length = 0 ∨ 12 < ws.length then none else (wordsOf ws).map (.loadData t.toNat)
    | 3, [] => some (.loadCommit t.toNat)
    | _, _ => none
  | _, _ => none

/-- A post whose fields make it ill-coded (08 R158, R159, R161). -/
def postIllCoded : Post → Bool
  | .halt scope _ => haltIllCoded scope
  | .cue _ _ _ _ ts tg _ => cueIllCoded ts tg
  | .ready _ _ _ ms => readyIllCoded ms
  | .loadAim _ a _ => aimIllCoded a
  | _ => false

/-- The post a delivered frame carries to the blocks: none where it is not fitting or is ill-coded (08 R154). -/
def decodePost (raw : RawPost) : Option Post :=
  if kindClass raw.kind = some raw.cls ∧ raw.payload.length ∈ kindLengths raw.kind then
    match parsePayload raw.kind raw.payload with
    | some p => if postIllCoded p then none else some p
    | none => none
  else none

/-! ### Frames as commands -/

/-- The command that the delivery of a post makes; a LOCK post is named by its action (08 R161, 10 R178). -/
def deliveryOf (sender : Fin 48) : Post → Instr
  | .halt sc r => .halt sender sc r
  | .clearStop => .clearStop sender
  | .claim k b => .claim sender k b
  | .release k => .release sender k
  | .tableStart q g c => .tableStart sender q g c
  | .tableEntry q i k b => .tableEntry sender q i k b
  | .tableEnd q c => .tableEnd sender q c
  | .cue f sh sg n ts tg d => .cue sender f sh sg n ts tg d
  | .drop f sh sg => .drop sender f sh sg
  | .ready f sh sg ms => .ready sender f sh sg ms
  | .unready f sh sg => .unready sender f sh sg
  | .done f sg n => .done sender f sg n
  | .cut f sg n st r => .cut sender f sg n st r
  | .presence p => .presence sender p
  | .notice n => .notice sender n
  | .ack t ks => .ack sender t ks
  | .lock t fl c =>
    match lockAction fl with
    | .unlock => .unlock sender t fl c
    | .master => .master sender t fl c
    | _ => .lock sender t fl c
  | .sync q r => .sync sender q r
  | .swap t => .swap sender t
  | .verify t => .verify sender t
  | .verified sh r sg => .verified sender sh r sg
  | .loadAim t a i => .loadAim sender t a i
  | .loadData t ws => .loadData sender t ws
  | .loadCommit t => .loadCommit sender t

/-- The command that the delivery of a frame makes (07 R140, 08 R154). -/
def commandOf (sender : Fin 48) (raw : RawPost) : Instr :=
  match decodePost raw with
  | some p => deliveryOf sender p
  | none => .unfittingPost sender raw

/-! ### The check -/

/-- The `w` low bits of a number, most significant first. -/
def bitsOf (w n : Nat) : List Bool := (List.range w).map (fun i => hasBit n (w - 1 - i))

/-- One bit of the remainder: shift left, and combine with 8B5Dh where the bit shifted out differs from the string's (08 R153). -/
def checkBit (r : Word) (b : Bool) : Word :=
  if r.msb != b then (r <<< 1) ^^^ 0x8B5D else r <<< 1

/-- The remainder over a string of bits, preset to all ones (08 R153). -/
def checkBits (bits : List Bool) : Word := bits.foldl checkBit 0xFFFF

/-- The remainder over words, each most significant bit first (09 R165, 11 R187). -/
def checkWords (ws : List Word) : Word :=
  ws.foldl (fun r w => (bitsOf 16 w.toNat).foldl checkBit r) 0xFFFF

/-- The bits the check of a frame runs over: class, sender, kind, length, payload (08 R152, R153). -/
def frameBits (sender : Nat) (raw : RawPost) : List Bool :=
  bitsOf 3 raw.cls ++ bitsOf 6 sender ++ bitsOf 5 raw.kind ++ bitsOf 5 raw.payload.length
    ++ raw.payload.flatMap (fun b => bitsOf 8 b.toNat)

/-- The check a frame carries (08 R153). -/
def frameCheck (sender : Nat) (raw : RawPost) : Word := checkBits (frameBits sender raw)

/-- A frame as a station sends it: its number, the class, kind and payload of its post, and the check over them (08 R152, R153). The length field is the payload's length. -/
structure Frame where
  sender : Nat
  raw : RawPost
  check : Word
  deriving DecidableEq, Repr

/-- The frame a station of number `strap` sends for a post (08 R152, R153). -/
def Frame.of (strap : Nat) (p : Post) : Frame := ⟨strap, encodePost p, frameCheck strap (encodePost p)⟩

end Sys2Proof.Machine
end

