-- ==== Sys2Proof/WellFormed.lean ====
section
/-! DEFINITION. Well-formed commands: a delivery's operands are what a fitting post that is not ill-coded can carry (08 R154 to R162), a LOCK post stands on the row of its action (10 R178), an UNFITTING_POST is one, and a contender has a class and a station number (08 R152). -/

namespace Sys2Proof

open Sys2Proof.Machine

/-- A byte field. -/
def isByte (n : Nat) : Bool := decide (n < 256)

/-- A field of two bytes. -/
def isTwo (n : Nat) : Bool := decide (n < 65536)

/-- An optional byte: a present value is not the absent one (08 R155). -/
def isOpt : Option Nat → Bool
  | some n => decide (n < 255)
  | none => true

def Key.isBytes (k : Key) : Bool := isByte k.flyer && isByte k.tag

def Box.isBytes (b : Box) : Bool :=
  isByte b.x0 && isByte b.x1 && isByte b.y0 && isByte b.y1 && isByte b.z0 && isByte b.z1

/-- The haul and load fields of a PRESENCE hold signed 24 and 16 bits (08 R160). -/
def Presence.inRange (p : Presence) : Bool :=
  isByte p.flyer && isTwo p.activeShow && isOpt p.runSegment && isTwo p.stepIndex
    && decide (-8388608 ≤ p.haul) && decide (p.haul ≤ 8388607)
    && decide (-32768 ≤ p.load) && decide (p.load ≤ 32767)

/-- Every field fits its place in the payload (08 R156 to R162). -/
def Post.inRange : Post → Bool
  | .halt scope reason => isByte scope && isByte reason
  | .clearStop => true
  | .claim k b => k.isBytes && b.isBytes
  | .release k => k.isBytes
  | .tableStart q _ c => isByte q && isByte c
  | .tableEntry q i k b => isByte q && isByte i && k.isBytes && b.isBytes
  | .tableEnd q c => isByte q && isByte c
  | .cue f sh sg n ts tg d =>
    isByte f && isTwo sh && isByte sg && isByte n && isByte ts && isByte tg && isByte d
  | .drop f sh sg => isByte f && isTwo sh && isByte sg
  | .ready f sh sg ms => isByte f && isTwo sh && isByte sg && ms.all isByte
  | .unready f sh sg => isByte f && isTwo sh && isByte sg
  | .done f sg n => isByte f && isByte sg && isByte n
  | .cut f sg n st r => isByte f && isByte sg && isByte n && isTwo st && isByte r
  | .presence p => p.inRange
  | .notice n => isByte n.code && isByte n.subject && isByte n.flyer && isOpt n.segment && isTwo n.detail
  | .ack t _ => isByte t
  | .lock t _ _ => isByte t
  | .sync q r => isByte q && isByte r
  | .swap t => isByte t
  | .verify t => isByte t
  | .verified sh r sg => isTwo sh && isByte r && isByte sg
  | .loadAim t a i => isByte t && isByte a && isTwo i
  | .loadData t ws => isByte t && decide (1 ≤ ws.length) && decide (ws.length ≤ 6)
  | .loadCommit t => isByte t

/-- A post that a fitting frame can carry to the blocks. -/
def Post.wf (p : Post) : Bool := p.inRange && !postIllCoded p

/-- The sender and the post of a delivery; none for the other commands and for UNFITTING_POST. -/
def Instr.delivered : Instr → Option (Fin 48 × Post)
  | .halt s sc r => some (s, .halt sc r)
  | .clearStop s => some (s, .clearStop)
  | .claim s k b => some (s, .claim k b)
  | .release s k => some (s, .release k)
  | .sync s q r => some (s, .sync q r)
  | .tableStart s q g c => some (s, .tableStart q g c)
  | .tableEntry s q i k b => some (s, .tableEntry q i k b)
  | .tableEnd s q c => some (s, .tableEnd q c)
  | .cue s f sh sg n ts tg d => some (s, .cue f sh sg n ts tg d)
  | .drop s f sh sg => some (s, .drop f sh sg)
  | .ready s f sh sg ms => some (s, .ready f sh sg ms)
  | .unready s f sh sg => some (s, .unready f sh sg)
  | .done s f sg n => some (s, .done f sg n)
  | .cut s f sg n st r => some (s, .cut f sg n st r)
  | .presence s p => some (s, .presence p)
  | .notice s n => some (s, .notice n)
  | .ack s t ks => some (s, .ack t ks)
  | .lock s t fl c => some (s, .lock t fl c)
  | .unlock s t fl c => some (s, .lock t fl c)
  | .master s t fl c => some (s, .lock t fl c)
  | .swap s t => some (s, .swap t)
  | .verify s t => some (s, .verify t)
  | .verified s sh r sg => some (s, .verified sh r sg)
  | .loadAim s t a i => some (s, .loadAim t a i)
  | .loadData s t ws => some (s, .loadData t ws)
  | .loadCommit s t => some (s, .loadCommit t)
  | .startSequence .. | .restartAssert | .axisSample .. | .stepEnd | .brakeConfirmationExpiry
  | .postBegin .. | .postSpoiled .. | .unfittingPost .. | .lapse .. | .presenceTimerExpiry
  | .lineOffTimerExpiry | .joinSilenceExpiry | .aloneWindowExpiry | .attemptTimerExpiry
  | .retryTimerExpiry | .readyWaitExpiry | .spaceWaitExpiry | .chainDelayExpiry | .takeCue | .resync
  | .reClaim | .swapBegin | .recordWriteCompletion | .swapFlagWriteCompletion
  | .bankCopySliceCompletion | .loadCommitCompletion | .verifySliceCompletion | .lineIdleSeen => none

/-- The action flags of a LOCK post agree with the row it stands on; a post with bad flags stands on LOCK's (10 R178). -/
def lockRowFits : Instr → Bool
  | .lock _ _ fl _ => lockAction fl == .lock || lockAction fl == .bad
  | .unlock _ _ fl _ => lockAction fl == .unlock
  | .master _ _ fl _ => lockAction fl == .master
  | _ => true

/-- A well-formed command. -/
def Instr.wf (i : Instr) : Bool :=
  lockRowFits i &&
  match i.delivered with
  | some (_, p) => p.wf
  | none =>
    match i with
    | .unfittingPost _ raw => (decodePost raw).isNone
    | .postBegin others => others.all (fun c => decide (c.cls < 8) && decide (c.sender < 48))
    | _ => true

end Sys2Proof
end

