-- ==== Sys2Proof/Decode.lean ====
section
/-! DEFINITION. Commands by the opcode table's bits: no row of spec/opcode_table.json gives any, so no word spells a command. (Frames of the rig line are read by Machine/Wire.lean's decodePost.) -/

namespace Sys2Proof

/-- The command that a word spells by the table's bits: none, since no row of the table has bits. -/
def decodeTableWord (_nbits _w : Nat) : Option Instr := none

end Sys2Proof
end

