-- ==== Sys2Proof/Machine/Ops.lean ====
section
/-! DEFINITION. The named operations over the state: the block updates, program memory (09 R163), the outgoing queue and presence slot (07 R147 to R149, 06 R127), the roster entries (06 R120 to R123), the memory port arbiter and the records (09 R167, R176), and the changes of axis state and brake command (05 R105, R118). -/

namespace Sys2Proof.Machine

/-! ### Updates of one block -/

def State.withPower (s : State) (v : Power) : State := { s with power := v }
def State.withStrap (s : State) (v : Nat) : State := { s with strap := v }
def State.withCfg (s : State) (v : Option StationConfig) : State := { s with cfg := v }
def State.withReg (s : State) (v : AirRegister) : State := { s with reg := v }
def State.withSync (s : State) (v : SyncUnit) : State := { s with sync := v }
def State.withCue (s : State) (v : CueUnit) : State := { s with cue := v }
def State.withEngine (s : State) (v : Engine) : State := { s with engine := v }
def State.withAxis (s : State) (v : Axis) : State := { s with axis := v }
def State.withRoster (s : State) (v : Roster) : State := { s with roster := v }
def State.withLine (s : State) (v : Line) : State := { s with line := v }
def State.withStore (s : State) (v : Store) : State := { s with store := v }
def State.withLock (s : State) (v : LockUnit) : State := { s with lock := v }
def State.withFreeCount (s : State) (v : Nat) : State := { s with freeCount := v }
def State.withPending (s : State) (v : List Instr) : State := { s with pending := v }

/-! ### The station's configuration -/

/-- The configuration, or the empty one of a station without a valid record. -/
def State.conf (s : State) : StationConfig := s.cfg.getD StationConfig.empty

def State.flyer (s : State) : Nat := s.conf.flyer

def State.members (s : State) : List Nat := s.conf.members

/-- A station of the line set, the station itself included (00_scope 4.2). -/
def State.isMember (s : State) (n : Nat) : Bool := s.members.contains n

/-- The station is the set lead (11 R188). -/
def State.isLead (s : State) : Bool := s.members.head? == some s.strap

/-- Station `n` is the station's set lead. -/
def State.leadIs (s : State) (n : Nat) : Bool := s.members.head? == some n

/-! ### Program memory -/

/-- What an unlisted word reads as: memory as delivered blank (09 R163). -/
def Memory.blank : Word := 0xFFFF

/-- The word at an address. -/
def Memory.read : Memory → Nat → Word
  | [], _ => Memory.blank
  | (b, v) :: t, a => if a = b then v else if a < b then Memory.blank else Memory.read t a

/-- The memory with one word written, in canonical form. -/
def Memory.write : Memory → Nat → Word → Memory
  | [], a, w => if w = Memory.blank then [] else [(a, w)]
  | (b, v) :: t, a, w =>
    if a < b then (if w = Memory.blank then (b, v) :: t else (a, w) :: (b, v) :: t)
    else if a = b then (if w = Memory.blank then t else (a, w) :: t)
    else (b, v) :: Memory.write t a w

/-- Canonical form from an address on: addresses strictly rising, no word blank. -/
def Memory.wfFrom : Nat → Memory → Bool
  | _, [] => true
  | lo, (b, v) :: t => decide (lo ≤ b) && decide (v ≠ Memory.blank) && Memory.wfFrom (b + 1) t

/-- The canonical form of program memory. -/
def Memory.wf (m : Memory) : Bool := Memory.wfFrom 0 m

/-- Several words written in turn. -/
def Memory.writeAll (m : Memory) (cells : List MemCell) : Memory :=
  cells.foldl (fun m c => Memory.write m c.1 c.2) m

/-- `n` words from an address on. -/
def Memory.readWords (m : Memory) (a n : Nat) : List Word :=
  (List.range n).map (fun i => Memory.read m (a + i))

/-! ### The outgoing queue -/

/-- A queued post that the admission rule may discard: neither on the line nor the retry post (07 R148). -/
def Line.displaceable (l : Line) (p : OutPost) : Bool :=
  l.onLine != some (.own (.queued p.age)) && l.retry != some (.queued p.age)

/-- The highest class number among posts, 0 for none. -/
def highestClass (ps : List OutPost) : Nat := ps.foldl (fun c p => max c (Post.cls p.post)) 0

/-- The post a full queue discards for a new post of class `c`: the newest displaceable post of the highest class number present, if that is above `c` (07 R148). -/
def Line.victim (l : Line) (c : Nat) : Option OutPost :=
  let ds := l.queue.filter (Line.displaceable l)
  let h := highestClass ds
  if c < h then (ds.filter (fun p => Post.cls p.post == h)).getLast? else none

/-- A post enqueued by a block: admitted, or discarded, or displacing another; a discard in JOINING or ON is reported (07 R148). -/
def Line.offer (l : Line) (post : Post) (use : PostUse) : Line :=
  match l.state with
  | .lineOff | .deaf | .listenOnly => l
  | .joining | .on =>
    let p : OutPost := ⟨post, use, l.nextAge⟩
    if l.queue.length < Config.maxPosts then
      { l with queue := l.queue ++ [p], nextAge := l.nextAge + 1 }
    else
      match Line.victim l (Post.cls post) with
      | some v =>
        { l with queue := l.queue.eraseP (fun q => q.age == v.age) ++ [p],
                 nextAge := l.nextAge + 1, reports := l.reports ++ [v] }
      | none => { l with nextAge := l.nextAge + 1, reports := l.reports ++ [p] }

/-- A PRESENCE asked for: it enters the empty slot, replaces an unsent one and takes over its age, or waits as the further-presence request; outside ON nothing is enqueued (06 R127, R128; 07 R147). -/
def Line.requestPresence (l : Line) : Line :=
  match l.state with
  | .on =>
    match l.slot with
    | none => { l with slot := some ⟨l.nextAge, none⟩, nextAge := l.nextAge + 1 }
    | some p =>
      if l.onLine = some (.own .slot) then { l with further := true }
      else { l with slot := some ⟨p.age, none⟩ }
  | .joining | .lineOff | .deaf | .listenOnly => l

/-- Whether a queued post picked by `f` has the given age. -/
def Line.picks (l : Line) (f : OutPost → Bool) (a : Nat) : Bool :=
  l.queue.any (fun p => f p && p.age == a)

/-- The queued posts picked by `f` are withdrawn; one that is on the line is spoiled by the station itself (07 R149; log entry 12). -/
def Line.withdraw (l : Line) (f : OutPost → Bool) : Line :=
  { l with
    queue := l.queue.filter (fun p => !f p)
    onLine := match l.onLine with
      | some (.own (.queued a)) => if Line.picks l f a then some .withdrawn else l.onLine
      | o => o
    retry := match l.retry with
      | some (.queued a) => if Line.picks l f a then none else l.retry
      | r => r }

/-- Two posts are the same request: a TABLE-START's stamped fields are not compared (02 R32). -/
def samePost : Post → Post → Bool
  | .tableStart q _ _, .tableStart q' _ _ => q == q'
  | p, p' => p == p'

/-- The oldest queued post with the contents of a delivered one. -/
def Line.heldPost (l : Line) (p : Post) : Option OutRef :=
  match p with
  | .presence _ => if l.slot.isSome then some .slot else none
  | _ => (l.queue.find? (fun q => samePost q.post p)).map (fun q => .queued q.age)

/-- Which of its own posts a station takes a delivered post to be (07 R138, R140): the one it sends where that post is on the line; none where the post on the line is another station's, which a twin under the same number may have sent, or one withdrawn. Where no begin was given for the post it is the one the station holds with those contents (log entry 9). `mine` says that the sender field is the station's number. -/
def Line.ownRef (l : Line) (mine : Bool) (p : Option Post) : Option OutRef :=
  if mine then
    match l.onLine with
    | some (.own r) => some r
    | none => p.bind (Line.heldPost l)
    | some .withdrawn | some .other => none
  else none

/-- The delivery of the station's own post: its queue entry or the slot is emptied, and a further-presence request enters the slot with the age of the delivery (07 R140, R147). -/
def Line.removeDelivered (l : Line) (r : OutRef) : Line :=
  match r with
  | .slot =>
    { l with
      slot := if l.further then some ⟨l.nextAge, none⟩ else none
      nextAge := if l.further then l.nextAge + 1 else l.nextAge
      further := false
      retry := if l.retry = some .slot then none else l.retry }
  | .queued a =>
    { l with
      queue := l.queue.eraseP (fun q => q.age == a)
      retry := if l.retry = some (.queued a) then none else l.retry }

/-- A CLAIM of the station's own is in its outgoing queue (03 R62). -/
def Line.hasClaim (l : Line) : Bool :=
  l.queue.any (fun p => match p.post with
    | .claim .. => true
    | _ => false)

/-- The show-stop watch's HALT: scope ALL, reason SHOW (06 R131). -/
def isShowHalt (p : OutPost) : Bool := p.post == .halt absentByte HaltReason.showStop.code

/-! #### The choice of the post to enter in a contention -/

/-- A post the station could enter, with what the choice compares. -/
structure Candidate where
  cls : Nat
  age : Nat
  ref : OutRef
  deriving DecidableEq, Repr

def Line.candidates (l : Line) : List Candidate :=
  l.queue.map (fun p => ⟨Post.cls p.post, p.age, .queued p.age⟩)
    ++ match l.slot with
      | some p => [⟨3, p.age, .slot⟩]
      | none => []

/-- Lowest class first, then oldest age (07 R147). -/
def Candidate.before (a b : Candidate) : Bool := decide (a.cls < b.cls) || (a.cls == b.cls && decide (a.age ≤ b.age))

def firstCandidate : List Candidate → Option Candidate
  | [] => none
  | c :: cs =>
    match firstCandidate cs with
    | none => some c
    | some d => if Candidate.before c d then some c else some d

/-- The post the station enters when contention opens: the retry post, else the first of the queue and slot (07 R147). -/
def Line.select (l : Line) : Option Candidate :=
  match l.retry.bind (fun r => (Line.candidates l).find? (fun c => c.ref == r)) with
  | some c => some c
  | none => firstCandidate (Line.candidates l)

/-! ### Posting -/

def State.post (s : State) (p : Post) : State := s.withLine (Line.offer s.line p .plain)

def State.postFor (s : State) (use : PostUse) (p : Post) : State := s.withLine (Line.offer s.line p use)

/-- A NOTICE with the station's flyer (08 R162). -/
def State.notice (s : State) (code : NoticeCode) (subject : Nat) (segment : Option Nat) (detail : Nat) : State :=
  s.post (.notice ⟨code.code, subject, s.flyer, segment, detail⟩)

def State.askPresence (s : State) : State := s.withLine (Line.requestPresence s.line)

def State.withdraw (s : State) (f : OutPost → Bool) : State := s.withLine (Line.withdraw s.line f)

/-! ### Roster entries -/

/-- The entry of a station number; beyond 47 there is none, read as absent. -/
def Roster.entry (r : Roster) (n : Nat) : RosterEntry := r.entries.toList.getD n RosterEntry.absent

def Roster.put (r : Roster) (i : Fin 48) (e : RosterEntry) : Roster :=
  { r with entries := r.entries.set i.val e i.isLt }

/-- A post was delivered from this station (06 R121). -/
def RosterEntry.heard (e : RosterEntry) : RosterEntry :=
  { e with present := true, lapse := some Config.lapseMs, seen := e.present && e.seen }

/-- The reported fields of a PRESENCE (06 R122); run segment and step index as the post carries them (log entry 36). -/
def RosterEntry.report (e : RosterEntry) (p : Presence) : RosterEntry :=
  { e with
    seen := true, flyer := rosterFlyer p.flyer, axis := p.axis, reg := p.reg,
    generation := some p.generation, runSegment := p.runSegment, stepIndex := some p.stepIndex,
    showStop := some p.showStop }

/-- The winch peers: stations 0-31 other than the station itself (02 R27). -/
def State.peers (s : State) : List Nat := (List.range 32).filter (fun n => n != s.strap)

/-- A peer reports CURRENT: present, and its last PRESENCE carried CURRENT (02 R27). -/
def RosterEntry.reportsCurrent (e : RosterEntry) : Bool :=
  e.present && e.seen && e.reg == some .current

/-- Every agree mark becomes UNMARKED (02 R41). -/
def Roster.unmarkAll (r : Roster) : Roster :=
  { r with entries := r.entries.map (fun e => { e with mark := .unmarked }) }

/-! ### Records and the memory port arbiter -/

/-- The category of a request: record writes, bank copy slices, load commits, verify slices (09 R167). -/
def MemRequest.category : MemRequest → Nat
  | .aloftWrite | .lockWrite | .flagWrite => 1
  | .copySlice _ => 2
  | .commit => 3
  | .verifySlice _ => 4

/-- The waiting request to grant: the oldest of the first category present (09 R167). -/
def nextRequest (ws : List MemRequest) : Option MemRequest :=
  match ws.find? (fun r => r.category == 1) with
  | some r => some r
  | none =>
    match ws.find? (fun r => r.category == 2) with
    | some r => some r
    | none =>
      match ws.find? (fun r => r.category == 3) with
      | some r => some r
      | none => ws.find? (fun r => r.category == 4)

/-- The operation a granted request becomes; a record write takes the target as it stands (09 R176). -/
def Store.opOf (st : Store) : MemRequest → MemOp
  | .aloftWrite => .aloftWrite st.aloft.target
  | .lockWrite => .lockWrite st.lockRec.target
  | .flagWrite => .flagWrite st.flag.target
  | .copySlice i => .copySlice i
  | .commit => .commit (st.commit.getD [])
  | .verifySlice i => .verifySlice i false

/-- A request entered with the arbiter (09 R167). -/
def Store.request (st : Store) (r : MemRequest) : Store := { st with waiting := st.waiting ++ [r] }

/-- A grant while no operation is in flight (09 R167). -/
def Store.grant (st : Store) : Store :=
  match st.inFlight with
  | some _ => st
  | none =>
    match nextRequest st.waiting with
    | none => st
    | some r => { st with waiting := st.waiting.erase r, inFlight := some (Store.opOf st r) }

def MemOp.isAloft : Option MemOp → Bool
  | some (.aloftWrite _) => true
  | _ => false

def MemOp.isLock : Option MemOp → Bool
  | some (.lockWrite _) => true
  | _ => false

def MemOp.isFlag : Option MemOp → Bool
  | some (.flagWrite _) => true
  | _ => false

/-- A write of the aloft record is pending (09 R176). -/
def Store.aloftPending (st : Store) : Bool := st.aloft.target != st.aloft.stored || MemOp.isAloft st.inFlight

/-- A write of the lock record is pending (09 R176). -/
def Store.lockPending (st : Store) : Bool := st.lockRec.target != st.lockRec.stored || MemOp.isLock st.inFlight

/-- A record write is requested where a target differs from the stored value and no write of that record waits or is in flight (09 R176). -/
def Store.requestAloft (st : Store) : Store :=
  if st.aloft.target ≠ st.aloft.stored && !st.waiting.contains .aloftWrite && !MemOp.isAloft st.inFlight then
    st.request .aloftWrite
  else st

def Store.requestLock (st : Store) : Store :=
  if st.lockRec.target ≠ st.lockRec.stored && !st.waiting.contains .lockWrite && !MemOp.isLock st.inFlight then
    st.request .lockWrite
  else st

def Store.requestFlag (st : Store) : Store :=
  if st.flag.target ≠ st.flag.stored && !st.waiting.contains .flagWrite && !MemOp.isFlag st.inFlight then
    st.request .flagWrite
  else st

/-- What the record logic and the arbiter do at the end of every event: request the writes that are wanted and grant the port. -/
def Store.servePort (st : Store) : Store :=
  Store.grant (Store.requestFlag (Store.requestLock (Store.requestAloft st)))

/-- The bank that is not active (09 R163); while no bank is active, none. -/
def Bank.other : Bank → Bank
  | .a => .b
  | .b => .a

/-- A bank's first word (09 R163). -/
def Bank.base : Bank → Nat
  | .a => 1024
  | .b => 4096

/-- The aloft record that covers a claim; none is written as FFFFh words (09 R163). -/
def AloftRecord.ofClaim (flyer : Nat) : Option Held → AloftRecord
  | some h => .set flyer (Word.ofBytes h.key.flyer h.key.tag) (Word.ofBytes h.box.x0 h.box.x1)
      (Word.ofBytes h.box.y0 h.box.y1) (Word.ofBytes h.box.z0 h.box.z1)
  | none => .set flyer 0xFFFF 0xFFFF 0xFFFF 0xFFFF

/-- The aloft record's target (09 R176). -/
def State.aimAloft (s : State) (v : AloftRecord) : State :=
  s.withStore { s.store with aloft := ⟨s.store.aloft.stored, v⟩ }

/-- The aloft record's target takes a changed covering claim, if it is set (09 R176). -/
def State.coverChanged (s : State) (h : Option Held) : State :=
  match s.store.aloft.target with
  | .clear => s
  | .set .. => s.aimAloft (AloftRecord.ofClaim s.flyer h)

/-! ### Axis state and brake -/

/-- The at-rest states (00_scope 4.3). -/
def AxisState.atRest : AxisState → Bool
  | .parked | .poised | .holding | .recovery => true
  | _ => false

/-- A change of axis state: a PRESENCE is asked for, and the entry into PARKED sets the aloft record's target clear (05 R118, 09 R176). -/
def State.enterAxis (s : State) (a : AxisState) : State :=
  if s.axis.state = a then s
  else
    let s1 := (s.withAxis { s.axis with state := a }).askPresence
    if a = .parked then s1.aimAloft .clear else s1

/-- The brake command; each change starts the confirmation timer (05 R105). -/
def Axis.command (x : Axis) (b : Brake) : Axis :=
  if x.brake = b then x else { x with brake := b, brakeTimer := some Config.brakeSamples }

/-- PARKED at or below the ground band, and `above` otherwise, by the haul of the most recent sample. -/
def State.restByHaul (s : State) (above : AxisState) : AxisState :=
  if s.axis.inputs.haul ≤ (s.conf.groundBand : Int) then .parked else above

end Sys2Proof.Machine
end

