-- ==== Sys2Proof/Machine/Airspace.lean ====
section
/-! DEFINITION. The airspace register's evaluation of CLAIM and RELEASE: boxes, fixed zones, the claim table and the verdicts (01 R1 to R16, R24). -/

namespace Sys2Proof.Machine

/-- A well-formed box (R1). -/
def Box.wf (b : Box) : Bool :=
  decide (b.x0 ≤ b.x1) && decide (b.x1 ≤ 63) && decide (b.y0 ≤ b.y1) && decide (b.y1 ≤ 63)
    && decide (b.z0 ≤ b.z1) && decide (b.z1 ≤ 31)

/-- Ranges a..b and c..d share a value (R1). -/
def rangesMeet (a b c d : Nat) : Bool := decide (a ≤ d) && decide (c ≤ b)

/-- Two boxes overlap when their ranges intersect on all three axes (R1). -/
def Box.overlaps (b c : Box) : Bool :=
  rangesMeet b.x0 b.x1 c.x0 c.x1 && rangesMeet b.y0 b.y1 c.y0 c.y1 && rangesMeet b.z0 b.z1 c.z0 c.z1

/-- A flyer number 1-15 and a tag 0-7 (R4). -/
def Key.wf (k : Key) : Bool := decide (1 ≤ k.flyer) && decide (k.flyer ≤ 15) && decide (k.tag ≤ 7)

/-- A zone bars a flyer unless it exempts that flyer (R3). -/
def Zone.bars (z : Zone) (f : Nat) : Bool := z.exempt != some f

/-- The box meets a zone conflict for the flyer (R3). -/
def zoneConflict (zones : List Zone) (f : Nat) (b : Box) : Bool :=
  zones.any (fun z => Zone.bars z f && Box.overlaps b z.box)

/-- The box overlaps an entry of another flyer (R6). -/
def entryConflict (table : List Entry) (f : Nat) (b : Box) : Bool :=
  table.any (fun e => e.key.flyer != f && Box.overlaps b e.box)

/-- The entry with a key (R24). -/
def findEntry (table : List Entry) (k : Key) : Option Entry := table.find? (fun e => e.key == k)

/-- The table holds an entry with the key (R24). -/
def hasKey (table : List Entry) (k : Key) : Bool := table.any (fun e => e.key == k)

/-- The table holds an entry with the key and an identical box (R24). -/
def hasEntry (table : List Entry) (k : Key) (b : Box) : Bool := table.any (fun e => e.key == k && e.box == b)

/-- The entries of a flyer (R24). -/
def countOf (table : List Entry) (f : Nat) : Nat := (table.filter (fun e => e.key.flyer == f)).length

/-- The verdicts of a CLAIM evaluation (R12). -/
inductive Verdict where
  | appended | resized | unchanged | badBox | full | limit | zone | overlap
  deriving DecidableEq, Repr

/-- The five refusals (R12). -/
def Verdict.refused : Verdict → Bool
  | .badBox | .full | .limit | .zone | .overlap => true
  | .appended | .resized | .unchanged => false

/-- The verdicts that change the table and raise the generation (R12, R16). -/
def Verdict.changes : Verdict → Bool
  | .appended | .resized => true
  | _ => false

/-- A resize of the entry `e` (R9). -/
def resizeVerdict (zones : List Zone) (table : List Entry) (e : Entry) (k : Key) (b : Box) : Verdict :=
  if zoneConflict zones k.flyer b then .zone
  else if entryConflict table k.flyer b then .overlap
  else if e.box = b then .unchanged
  else .resized

/-- A new claim (R10, R11). -/
def newVerdict (zones : List Zone) (table : List Entry) (k : Key) (b : Box) : Verdict :=
  if Config.maxEntries ≤ table.length then .full
  else if Config.maxPerFlyer ≤ countOf table k.flyer then .limit
  else if zoneConflict zones k.flyer b then .zone
  else if entryConflict table k.flyer b then .overlap
  else .appended

/-- The verdict of a CLAIM (R8). -/
def claimVerdict (zones : List Zone) (table : List Entry) (k : Key) (b : Box) : Verdict :=
  if !(Key.wf k && Box.wf b) then .badBox
  else
    match findEntry table k with
    | some e => resizeVerdict zones table e k b
    | none => newVerdict zones table k b

/-- The first entry with the key takes a new box; key and position stay (R5, R9). -/
def replaceBox : List Entry → Key → Box → List Entry
  | [], _, _ => []
  | e :: t, k, b => if e.key = k then ⟨k, b⟩ :: t else e :: replaceBox t k b

/-- The table a verdict leaves (R12). -/
def tableAfter (table : List Entry) (k : Key) (b : Box) : Verdict → List Entry
  | .appended => table ++ [⟨k, b⟩]
  | .resized => replaceBox table k b
  | _ => table

/-- The register after a CLAIM evaluation (R8 to R12, R16). -/
def AirRegister.claim (r : AirRegister) (k : Key) (b : Box) : AirRegister :=
  let v := claimVerdict r.zones r.table k b
  { r with
    table := tableAfter r.table k b v
    generation := if v.changes then r.generation + 1 else r.generation }

/-- Removal of the entry with a key: those after it move up (R5, R14). -/
def removeKey (table : List Entry) (k : Key) : List Entry := table.eraseP (fun e => e.key == k)

/-- The register after a RELEASE (R14, R16); it is REMOVED exactly when the table held the key. -/
def AirRegister.release (r : AirRegister) (k : Key) : AirRegister :=
  if hasKey r.table k then { r with table := removeKey r.table k, generation := r.generation + 1 }
  else r

end Sys2Proof.Machine
end

