-- ==== Sys2Proof/Machine/Bank.lean ====
section
/-! DEFINITION. The layout of program memory: banks and segment records (09 R163, R164), the validation of a bank (R165), and the configuration, aloft and lock records (11 R187 to R190, 10 R184). -/

namespace Sys2Proof.Machine

/-- A word of a bank's image by its offset; an empty working copy reads 0 (R163, R177). -/
def bankWord (ws : List Word) (i : Nat) : Word := ws.getD i 0

/-- The show number of a bank image (R163). -/
def bankShow (ws : List Word) : Nat := (bankWord ws 0).toNat

/-- A segment record's nine words as fields (R164); mode none is an absent segment. -/
structure Segment where
  mode : Option Mode
  landing : Bool
  lowering : Bool
  stepTen : Nat
  row : Nat
  first : Nat
  hi2 : Nat
  lo2 : Nat
  tag : Nat
  defaultReps : Nat
  box : Box
  startHaul : Nat
  tolerance : Nat
  deriving DecidableEq, Repr

/-- Mode bits 1-0 of word 0 (R164). -/
def modeOf : Nat → Option Mode
  | 1 => some .once
  | 2 => some .back
  | 3 => some .swing
  | _ => none

/-- Segment record `s` of a bank image: offsets 3 + 9s to 11 + 9s (R163, R164). -/
def segmentOf (ws : List Word) (s : Nat) : Segment :=
  let w := fun i => bankWord ws (3 + 9 * s + i)
  { mode := modeOf ((w 0).lo % 4), landing := hasBit (w 0).lo 2, lowering := hasBit (w 0).lo 3,
    stepTen := (w 0).hi, row := (w 1).hi, first := (w 1).lo, hi2 := (w 2).hi, lo2 := (w 2).lo,
    tag := (w 3).hi, defaultReps := (w 3).lo,
    box := ⟨(w 4).hi, (w 4).lo, (w 5).hi, (w 5).lo, (w 6).hi, (w 6).lo⟩,
    startHaul := (w 7).toNat, tolerance := (w 8).toNat }

/-- The stored speed of row r, column c: a signed value at offset 435 + 32r + c (R163). -/
def speedAt (ws : List Word) (r c : Nat) : Int := (bankWord ws (435 + 32 * r + c)).toInt

/-- The profile positions (32 × row + column) a present segment plays (R165). -/
def playedPositions (g : Segment) : List Nat :=
  match g.mode with
  | some .swing => (List.range g.hi2).map (fun j => 32 * g.row + g.first + j)
  | some _ => (List.range g.lo2).map (fun j => 32 * g.row + g.first + j)
  | none => []

/-- The span test of a present segment (R165). -/
def spanValid (g : Segment) : Bool :=
  match g.mode with
  | some .swing =>
    decide (1 ≤ g.hi2) && decide (g.hi2 ≤ 32) && decide (1 ≤ g.lo2) && decide (g.lo2 ≤ g.hi2)
      && decide (g.first + g.hi2 ≤ 32)
  | some _ => decide (1 ≤ g.lo2) && decide (g.lo2 ≤ 255) && decide (32 * g.row + g.first + g.lo2 - 1 ≤ 2047)
  | none => true

/-- The default repetitions test (R165). -/
def repsValid (g : Segment) : Bool :=
  match g.mode with
  | some .swing => decide (1 ≤ g.defaultReps) && decide (g.defaultReps ≤ 255)
  | some _ => decide (g.defaultReps = 1)
  | none => true

/-- A LOWERING segment pays out at every step as played (R165). -/
def loweringValid (ws : List Word) (g : Segment) : Bool :=
  if g.lowering then
    match g.mode with
    | some .once => (playedPositions g).all (fun p => decide (speedAt ws 0 p ≤ 0))
    | some .back => (playedPositions g).all (fun p => decide (0 ≤ speedAt ws 0 p))
    | some .swing => false
    | none => true
  else true

/-- A present segment is valid against max haul and speed limit (R165). -/
def segmentValid (maxHaul speedLimit : Nat) (ws : List Word) (g : Segment) : Bool :=
  decide (1 ≤ g.stepTen) && decide (g.stepTen ≤ 255) && decide (g.row ≤ 63) && decide (g.first ≤ 31)
    && spanValid g && repsValid g && decide (g.tag ≤ 7) && Box.wf g.box
    && decide (g.startHaul ≤ maxHaul) && decide (g.tolerance ≤ 1000)
    && (playedPositions g).all (fun p => decide ((speedAt ws 0 p).natAbs ≤ speedLimit))
    && loweringValid ws g

/-- The numbers of the present segments (R164). -/
def presentSegments (ws : List Word) : List Nat :=
  (List.range 48).filter (fun s => (segmentOf ws s).mode.isSome)

/-- The check word of a bank: over header words 0 and 1, then every word of the table and the profile (R165). -/
def bankCheck (ws : List Word) : Word := checkWords (bankWord ws 0 :: bankWord ws 1 :: ws.drop 3)

/-- The validation of a bank image (R165). -/
def validateBank (maxHaul speedLimit : Nat) (ws : List Word) : VerifyResult :=
  if bankShow ws = 0 then .badCheck
  else if (bankWord ws 1).toNat ≠ (presentSegments ws).length then .badCheck
  else if bankWord ws 2 ≠ bankCheck ws then .badCheck
  else
    match (presentSegments ws).find? (fun s => !segmentValid maxHaul speedLimit ws (segmentOf ws s)) with
    | some s => .badSegment s
    | none => .ok

/-- The valid mark a validation gives (R166). -/
def VerifyResult.valid : VerifyResult → Bool
  | .ok => true
  | _ => false

/-! ### Areas and slices -/

/-- An area's first offset in its bank, and its words (R163). -/
def Area.offset : Area → Nat
  | .header => 0
  | .segments => 3
  | .profile => 435

def Area.size : Area → Nat
  | .header => 3
  | .segments => 432
  | .profile => 2048

/-- Slice `i` of a bank: 64 words, the last of 51 (R167). -/
def readSlice (m : Memory) (bank : Bank) (i : Nat) : List Word :=
  Memory.readWords m (bank.base + Config.sliceWords * i) (min Config.sliceWords (Config.bankWords - Config.sliceWords * i))

/-- A whole bank (R166). -/
def readBank (m : Memory) (bank : Bank) : List Word := Memory.readWords m bank.base Config.bankWords

/-! ### The records -/

/-- The bank a swap flag names (R163). -/
def bankOfFlag (w : Word) : Bank := if w = 1 then .b else .a

def flagOfBank : Bank → Word
  | .a => 0
  | .b => 1

/-- The aloft record in words 65-69 (R163). -/
def readAloft (m : Memory) : AloftRecord :=
  if (Memory.read m 65).lo = 1 then
    .set (Memory.read m 65).hi (Memory.read m 66) (Memory.read m 67) (Memory.read m 68) (Memory.read m 69)
  else .clear

/-- The lock record in words 70-71 (R163). -/
def readLock (m : Memory) : Option Word :=
  if Memory.read m 70 = 1 then some (Memory.read m 71) else none

/-- The words an aloft record write leaves (R163); of a clear record only that it does not read as set is stated (log entry 8). -/
def aloftCells (flyer free : Nat) : AloftRecord → List MemCell
  | .set f k b0 b1 b2 => [(65, Word.ofBytes f 1), (66, k), (67, b0), (68, b1), (69, b2)]
  | .clear =>
    let low := (Config.clearAloftLow free).toNat
    (65, Word.ofBytes flyer (if low = 1 then 0 else low))
      :: [66, 67, 68, 69].map (fun a => (a, Config.clearAloftWord free a))

/-- The words a lock record write leaves (R163; log entry 8). -/
def lockCells (free : Nat) : Option Word → List MemCell
  | some code => [(70, 1), (71, code)]
  | none =>
    [(70, if Config.clearLockMark free = 1 then 0 else Config.clearLockMark free),
     (71, Config.clearLockCode free)]

/-- The held key and held box of an aloft record for a station's flyer (11 R190). -/
def heldOfAloft (flyer : Nat) : AloftRecord → Option Held
  | .clear => none
  | .set f k b0 b1 b2 =>
    let key : Key := ⟨k.hi, k.lo⟩
    let box : Box := ⟨b0.hi, b0.lo, b1.hi, b1.lo, b2.hi, b2.lo⟩
    if f = flyer ∧ key.flyer = flyer ∧ key.tag ≤ 7 ∧ Box.wf box = true then some ⟨key, box⟩ else none

/-! ### The configuration record -/

/-- Whether a number lies in an inclusive range. -/
def within (lo hi n : Nat) : Bool := decide (lo ≤ n) && decide (n ≤ hi)

/-- Zone `z` of the configuration record: words 14 + 4z to 17 + 4z (11 R187). -/
def zoneOf (m : Memory) (z : Nat) : Zone :=
  let w := fun i => Memory.read m (14 + 4 * z + i)
  { box := ⟨(w 1).hi, (w 1).lo, (w 2).hi, (w 2).lo, (w 3).hi, (w 3).lo⟩,
    exempt := if (w 0).hi = absentByte then none else some (w 0).hi }

/-- A zone's fields lie in their ranges (11 R187). -/
def zoneValid (m : Memory) (z : Nat) : Bool :=
  let e := (Memory.read m (14 + 4 * z)).hi
  (within 1 15 e || e == absentByte) && Box.wf (zoneOf m z).box

/-- The fields of the configuration record (11 R187). -/
def configOf (m : Memory) : StationConfig :=
  let w := Memory.read m
  { flyer := (w 1).lo
    members := [(w 3).hi, (w 3).lo, (w 4).hi, (w 4).lo].take (w 2).hi
    skewLimit := (w 2).lo, maxHaul := (w 5).toNat, groundBand := (w 6).toNat,
    speedLimit := (w 7).toNat, accelLimit := (w 8).toNat, stopDecel := (w 9).toNat,
    slackThreshold := (w 10).toNat, overloadThreshold := (w 11).toNat, followLimit := (w 12).toNat,
    zones := (List.range (w 13).hi).map (zoneOf m), masterCode := w 46 }

/-- Every field of the configuration record lies in its range (11 R187). -/
def configInRange (m : Memory) : Bool :=
  let c := configOf m
  within 1 15 c.flyer && within 1 4 (Memory.read m 2).hi && within 1 8 c.skewLimit
    && c.members.all (fun n => decide (n ≤ 31)) && within 1000 40000 c.maxHaul
    && within 50 500 c.groundBand && within 100 3000 c.speedLimit && within 100 5000 c.accelLimit
    && within 200 5000 c.stopDecel && decide (c.slackThreshold ≤ 2000)
    && within 500 20000 c.overloadThreshold && within 10 500 c.followLimit
    && decide ((Memory.read m 13).hi ≤ 8)
    && (List.range (Memory.read m 13).hi).all (zoneValid m)

/-- The configuration of a valid record; none makes the station listen-only (11 R188). -/
def readConfig (m : Memory) (strap : Nat) : Option StationConfig :=
  if Memory.read m 0 ≠ 0x3A71 then none
  else if !configInRange m then none
  else if (Memory.read m 1).hi ≠ strap then none
  else if !((configOf m).members.contains strap && decide (configOf m).members.Nodup) then none
  else if Memory.read m 63 ≠ checkWords (Memory.readWords m 0 63) then none
  else some (configOf m)

end Sys2Proof.Machine
end

