-- ==== Sys2Proof/Machine/Player.lean ====
section
/-! DEFINITION. The profile engine: the slew, the step end, the three modes and settling (04 R76 to R93). Speeds in mm/s, demand in thousandths of mm/s, planned haul in millionths of mm, exactly (R77). -/

namespace Sys2Proof.Machine

/-- A demand moved toward a goal by at most `d` (R80). -/
def slew (demand goal d : Int) : Int :=
  if (goal - demand).natAbs ≤ d.natAbs then goal
  else if demand < goal then demand + d
  else demand - d

/-- The speed as played of the cursor's column (R83). -/
def playedSpeed (ws : List Word) (row col : Nat) (dir : Direction) : Int :=
  match dir with
  | .forward => speedAt ws row col
  | .back => -(speedAt ws row col)

/-- Row and column of a profile position. -/
def Engine.atPosition (e : Engine) (p : Nat) : Engine := { e with row := p / 32, col := p % 32 }

/-- The profile position of the cursor: row × 32 + column (R84). -/
def Engine.position (e : Engine) : Nat := 32 * e.row + e.col

/-- The next step is loaded: step timer and target speed (R82). -/
def Engine.load (ws : List Word) (stepTime : Nat) (e : Engine) : Engine :=
  { e with stepTimer := stepTime, target := playedSpeed ws e.row e.col e.dir }

/-- The playing fields of a segment (R78); a SWING's n and m, a ONCE's or RETURN's count as n. -/
def playOf (g : Segment) (mode : Mode) : Play :=
  match mode with
  | .swing => ⟨.swing, g.row, g.first, g.hi2, g.lo2, 10 * g.stepTen⟩
  | m => ⟨m, g.row, g.first, g.lo2, 0, 10 * g.stepTen⟩

/-- The engine begins a run from the measured haul in mm (R78). -/
def Engine.begin (ws : List Word) (p : Play) (reps : Nat) (haul : Int) (e : Engine) : Engine :=
  let start := 32 * p.row + p.first
  let e1 : Engine :=
    { e with
      state := .playing, play := some p, stepsLeft := p.n, stepIndex := 0, remaining := reps,
      demand := 0, planned := haul * 1000000,
      dir := match p.mode with
        | .back => .back
        | _ => .forward }
  let e2 := match p.mode with
    | .back => Engine.atPosition e1 (start + p.n - 1)
    | _ => { e1 with row := p.row, col := p.first }
  Engine.load ws p.stepTime e2

/-- The engine at rest: cursor, steps left, step timer, target and demand cleared; step index, remaining repetitions and planned haul kept (R76, R90, R92). -/
def Engine.toIdle (e : Engine) : Engine :=
  { e with
    state := .idle, row := 0, col := 0, dir := .forward, stepsLeft := 0, stepTimer := 0,
    target := 0, demand := 0 }

/-- The last step has ended: no further step is loaded, and the engine settles unless the demand is already 0 (R89). -/
def Engine.lastStep (e : Engine) : Engine := { e with state := .settling, stepTimer := 0, target := 0 }

/-- The cursor moves to the next column of the pass by the mode's rule (R84, R85, R86, R87). -/
def Engine.nextColumn (p : Play) (e : Engine) : Engine :=
  match p.mode, e.dir with
  | .once, _ => Engine.atPosition e (e.position + 1)
  | .back, _ => Engine.atPosition e (e.position - 1)
  | .swing, .forward => { e with col := e.col + 1 }
  | .swing, .back => { e with col := e.col - 1 }

/-- The SWING turn: the cursor stays on the last forward column (R86). -/
def Engine.turn (p : Play) (e : Engine) : Engine := { e with dir := .back, stepsLeft := p.m }

/-- A new forward pass of a SWING (R87). -/
def Engine.newPass (p : Play) (e : Engine) : Engine :=
  { e with row := p.row, col := p.first, dir := .forward, stepsLeft := p.n }

/-- The end of a pass: the turn, or a completed repetition and then a new forward pass or the last step (R84 to R89). -/
def Engine.passEnd (ws : List Word) (p : Play) (e : Engine) : Engine :=
  match p.mode, e.dir with
  | .swing, .forward => Engine.load ws p.stepTime (Engine.turn p e)
  | .swing, .back =>
    let e1 := { e with remaining := e.remaining - 1 }
    if 0 < e1.remaining then Engine.load ws p.stepTime (Engine.newPass p e1) else Engine.lastStep e1
  | _, _ => Engine.lastStep { e with remaining := e.remaining - 1 }

/-- A step end (R82). -/
def Engine.stepEnd (ws : List Word) (e : Engine) : Engine :=
  match e.play with
  | none => e
  | some p =>
    let e1 := { e with stepIndex := e.stepIndex + 1, stepsLeft := e.stepsLeft - 1 }
    if 0 < e1.stepsLeft then Engine.load ws p.stepTime (Engine.nextColumn p e1)
    else Engine.passEnd ws p e1

/-- The run completes: it has played its last step and its demand is 0 (R89, R90). -/
def Engine.completes (e : Engine) : Bool := e.state == .settling && e.demand == 0

/-- The engine's work at a sample, but for the completion (R79). The acceleration limit in mm/s² is the largest change of demand at one sample in thousandths of mm/s (R80). -/
def Engine.sample (ws : List Word) (accel : Nat) (e : Engine) : Engine :=
  match e.state with
  | .idle => e
  | .playing =>
    let d := slew e.demand (e.target * 1000) accel
    let e1 := { e with demand := d, planned := e.planned + d, stepTimer := e.stepTimer - 1 }
    if e1.stepTimer = 0 then Engine.stepEnd ws e1 else e1
  | .settling =>
    let d := slew e.demand 0 accel
    { e with demand := d, planned := e.planned + d }

end Sys2Proof.Machine
end

