-- ==== Sys2Proof/Machine/Shared.lean ====
section
/-! DEFINITION. The operations that several commands share and that cross blocks: drop, cut, flush, start and completion of a cue (03), the entry into FAULTED (05 R112), the sync choice and the answers (02), owed posts and discard reports (03 R70, 07 R148), the entries into LINE-OFF, DEAF and ON (07), the end of every event, and the envelope of every delivery (07 R140). -/

namespace Sys2Proof.Machine

/-! ### Cue unit: drop, cut, flush -/

/-- The cue queue is flushed (03 R67). -/
def flush (s : State) : State :=
  let n := s.cue.queue.length
  let s1 := s.withCue { s.cue with queue := [], chainDelay := none }
  if n = 0 then s1 else s1.notice .flushed s.strap none n

/-- The axis returns from ARMED to its origin; outside ARMED only the origin is forgotten (05 R99). -/
def returnToOrigin (s : State) : State :=
  let s1 := s.withAxis { s.axis with origin := none }
  if s.axis.state = .armed then s1.enterAxis (s.axis.origin.getD .parked) else s1

/-- The station's own undelivered posts of a cue that its drop withdraws: READY, UNREADY and CLAIM, and the CUT of its space wait unless that is the cause (03 R65). -/
def postOfCue (c : CurrentCue) (keepSpaceCut : Bool) (o : OutPost) : Bool :=
  match o.post with
  | .ready _ sh sg _ => sh == c.showNo && sg == c.segment
  | .unready _ sh sg => sh == c.showNo && sg == c.segment
  | .claim k b => o.use == .forCue && k == c.runKey && b == c.box
  | .cut .. => o.use == .spaceWait && !keepSpaceCut
  | _ => false

/-- The key of the held claim. -/
def CueUnit.heldKey (u : CueUnit) : Option Key := u.held.map (·.key)

/-- At a drop the set lead gives back space the set never used; during LINE-OFF the RELEASE is kept as owed (03 R65, R69). -/
def releaseUnused (c : CurrentCue) (s : State) : State :=
  if s.isLead && s.cue.heldKey != some c.runKey && hasKey s.reg.table c.runKey then
    let s1 := s.post (.release c.runKey)
    if s.line.state = .lineOff then s1.withCue { s1.cue with owedRelease := some c.runKey } else s1
  else s

/-- The drop of the armed cue `c` (03 R65); no CUT is posted where the delivery of the station's own CUT(SPACE) is the cause. -/
def dropArmed (c : CurrentCue) (reason : CutReason) (withCut : Bool) (s : State) : State :=
  let s1 := s.withCue { s.cue with current := none, readyWait := none, spaceWait := none }
  let s2 := returnToOrigin s1
  let s3 := s2.withdraw (postOfCue c (reason == .space))
  let s4 := if withCut then s3.post (.cut s.flyer c.segment c.reps 0 reason.code) else s3
  releaseUnused c s4

/-- A drop acts only on an ARMED cue (03 R64). -/
def dropCue (reason : CutReason) (withCut : Bool) (s : State) : State :=
  match s.cue.current with
  | some c => if c.phase = .armed then dropArmed c reason withCut s else s
  | none => s

/-- A drop where the armed cue has this show and segment. -/
def dropMatching (showNo segment : Nat) (reason : CutReason) (s : State) : State :=
  match s.cue.current with
  | some c => if c.showNo = showNo ∧ c.segment = segment then dropCue reason true s else s
  | none => s

/-- The axis goes from FLYING to STOPPING with the engine's demand and planned haul (05 R102). -/
def toStopping (demand planned : Int) (s : State) : State :=
  if s.axis.state = .flying then
    (s.withAxis { s.axis with demand := demand, ramp := some planned }).enterAxis .stopping
  else s

/-- The cut of the running cue `c` (03 R72, 04 R92). -/
def cutRunning (c : CurrentCue) (reason : CutReason) (s : State) : State :=
  let e := s.engine
  let s1 := s.withEngine (Engine.toIdle e)
  let s2 := if reason = .fault then s1 else toStopping e.demand e.planned s1
  let s3 := s2.post (.cut s.flyer c.segment e.remaining e.stepIndex reason.code)
  s3.withCue { s3.cue with held := some ⟨c.runKey, c.box⟩, current := none }

/-- A cut acts only on a RUNNING cue (03 R72). -/
def cutRun (reason : CutReason) (s : State) : State :=
  match s.cue.current with
  | some c => if c.phase = .running then cutRunning c reason s else s
  | none => s

/-! ### Cue unit: start and completion -/

/-- The start condition (03 R58). -/
def startCondition (s : State) : Bool :=
  match s.cue.current with
  | some c =>
    c.phase == .armed && s.cue.slots.all (fun x => x == some (c.showNo, c.segment))
      && hasEntry s.reg.table c.runKey c.box
  | none => false

/-- The posts a start withdraws: a queued UNREADY or CUT of the space wait (03 R59). -/
def postOfWait (c : CurrentCue) (o : OutPost) : Bool :=
  match o.post with
  | .unready _ sh sg => sh == c.showNo && sg == c.segment
  | .cut .. => o.use == .spaceWait
  | _ => false

/-- The profile engine begins the segment of a cue (04 R78). -/
def beginSegment (c : CurrentCue) (s : State) : State :=
  let ws := s.store.working.words
  let g := segmentOf ws c.segment
  s.withEngine (Engine.begin ws (playOf g (g.mode.getD .once)) c.reps s.axis.inputs.haul s.engine)

/-- The start of the run of cue `c` (03 R59, 05 R100, 06 R130). -/
def startRun (c : CurrentCue) (s : State) : State :=
  let s1 := s.withCue { s.cue with
    current := some { c with phase := .running }
    slots := s.cue.slots.map (fun _ => none)
    readyWait := none, spaceWait := none }
  let s2 := s1.withdraw (postOfWait c)
  let s3 := (s2.withAxis (Axis.command { s2.axis with origin := none, demand := 0 } .released)).enterAxis .flying
  let s4 := beginSegment c s3
  let s5 := s4.aimAloft (AloftRecord.ofClaim s.flyer (some ⟨c.runKey, c.box⟩))
  let s6 := s5.withRoster { s5.roster with skewReported := false }
  match s.cue.held with
  | some h => if s.isLead && h.key != c.runKey then s6.post (.release h.key) else s6
  | none => s6

/-- The test of the start condition at a READY, CLAIM or RELEASE (03 R58). -/
def testStart (s : State) : State :=
  match s.cue.current with
  | some c => if startCondition s then startRun c s else s
  | none => s

/-- Where the flyer hangs after a completion (03 R71, R73). -/
def settleHeld (c : CurrentCue) (s : State) : State :=
  if c.landing then
    let s1 := if s.isLead then s.post (.release c.runKey) else s
    (s1.withCue { s1.cue with held := none, current := none }).coverChanged none
  else s.withCue { s.cue with held := some ⟨c.runKey, c.box⟩, current := none }

/-- The completion of a run (03 R71, 04 R90, 05 R101). -/
def completeRun (s : State) : State :=
  let s1 := s.withEngine (Engine.toIdle s.engine)
  match s.cue.current with
  | some c =>
    if c.phase = .running then
      let s2 := s1.post (.done s.flyer c.segment c.reps)
      let s3 := (s2.withAxis { Axis.command s2.axis .set with demand := 0 }).enterAxis (s2.restByHaul .poised)
      settleHeld c s3
    else s1
  | none => s1

/-! ### Faults -/

/-- The reason of the HALT of a fault entry (03 R69). -/
def faultReason (kinds : FaultSet) : HaltReason := if kinds.estop then .estop else .fault

/-- The entry into FAULTED with the kinds detected, in the order of its rule: brake and demand, latch set, state, the cue unit's part, and the PRESENCE that reports them (05 R112, 03 R69). -/
def enterFaulted (kinds : FaultSet) (s : State) : State :=
  let x := { Axis.command s.axis .set with
    state := .faulted, demand := 0, ramp := none, faults := FaultSet.union s.axis.faults kinds }
  let s1 := cutRun .fault (dropCue .fault true (s.withAxis x))
  let s2 := flush (s1.withAxis { s1.axis with origin := none })
  (s2.post (.halt s.flyer (faultReason kinds).code)).askPresence

/-- Kinds detected: an entry into FAULTED, or an addition to the latch set (05 R112, R113); nothing is detected in UNCONFIGURED. -/
def detect (kinds : FaultSet) (s : State) : State :=
  if FaultSet.isEmpty kinds || s.axis.state == .unconfigured then s
  else if s.axis.state = .faulted then
    let f := FaultSet.union s.axis.faults kinds
    if f = s.axis.faults then s else (s.withAxis { s.axis with faults := f }).askPresence
  else enterFaulted kinds s

/-! ### Register states and the sync choice -/

/-- The attempt record between rounds (02 R26). -/
def SyncUnit.endRound (u : SyncUnit) : SyncUnit :=
  { u with
    phase := .idle, responder := none, failed := 0, attemptTimer := none, retryTimer := none, changes := [] }

/-- Requesters whose TABLE-START has not been enqueued are removed; the answer in progress continues (02 R34). -/
def SyncUnit.trimWaiting (u : SyncUnit) : SyncUnit :=
  { u with waitList := if u.answer.isSome then u.waitList.take 1 else [] }

/-- A change of register state: becoming or leaving CURRENT unmarks the roster, and leaving it trims the wait list (02 R34, R41). -/
def setRegister (r : RegisterState) (s : State) : State :=
  if s.reg.state = r then s
  else
    let s1 := s.withReg { s.reg with state := r }
    if r = .current then
      (s1.withRoster (Roster.unmarkAll s1.roster)).withSync { s1.sync with beenCurrent := true }
    else if s.reg.state = .current then
      (s1.withRoster (Roster.unmarkAll s1.roster)).withSync (SyncUnit.trimWaiting s1.sync)
    else s1

/-- The register becomes CURRENT and the round ends (02 R26, R38). -/
def becomeCurrent (s : State) : State := setRegister .current (s.withSync (SyncUnit.endRound s.sync))

/-- The station becomes CURRENT with an empty table and generation 0 (02 R27, R29). -/
def startRigAlone (s : State) : State := becomeCurrent (s.withReg { s.reg with table := [], generation := 0 })

/-- The station may make the choice (02 R27). -/
def choiceOpen (s : State) : Bool :=
  s.reg.state == .syncing && s.sync.phase == .idle && s.line.state == .on
    && (s.sync.beenCurrent || s.sync.alone == .expired || s.sync.winchSeen)

/-- The responder of the next attempt (02 R28). -/
def nextResponder (s : State) : Option Nat :=
  let cs := s.peers.filter (fun n => (s.roster.entry n).reportsCurrent)
  match s.sync.responder with
  | none => cs.head?
  | some p =>
    match cs.find? (fun n => decide (p < n)) with
    | some n => some n
    | none => cs.head?

/-- The station's number is lower than that of every present winch peer (02 R27). -/
def lowestPresent (s : State) : Bool :=
  s.peers.all (fun n => !(s.roster.entry n).present || decide (s.strap < n))

/-- An attempt begins with a responder (02 R30). -/
def beginAttempt (r : Nat) (s : State) : State :=
  (s.withSync { s.sync with phase := .posting, responder := some r }).post (.sync s.strap r)

/-- The choice (02 R27). -/
def choice (s : State) : State :=
  if choiceOpen s then
    match nextResponder s with
    | some r => beginAttempt r s
    | none =>
      if lowestPresent s && (s.sync.beenCurrent || s.sync.alone == .expired) then startRigAlone s else s
  else s

/-- An attempt is in progress (02 R30). -/
def Phase.inAttempt : Phase → Bool
  | .posting | .awaiting | .copying => true
  | .idle | .resting => false

/-- The failure of an attempt (02 R39). -/
def failAttempt (s : State) : State :=
  let n := s.sync.failed + 1
  let s1 := s.withSync { s.sync with phase := .idle, attemptTimer := none, changes := [], failed := n }
  if n < Config.maxFailed then choice s1
  else
    (s1.withSync { s1.sync with phase := .resting, retryTimer := some Config.retryMs }).notice
      .syncFailed s.strap none (s.sync.responder.getD 0)

/-- An attempt abandoned at the entry into LINE-OFF: the failed count is left (02 R30). -/
def SyncUnit.abandon (u : SyncUnit) : SyncUnit :=
  if u.phase.inAttempt then { u with phase := .idle, changes := [], attemptTimer := none } else u

/-- The next requester is served (02 R31, R33). -/
def serveNext (s : State) : State :=
  match s.sync.waitList with
  | q :: _ => (s.withSync { s.sync with answer := some ⟨none⟩ }).post (.tableStart q 0 0)
  | [] => s

/-- The answer ends, complete or abandoned: its requester leaves the head of the wait list and the next is served (02 R33, R34). -/
def endAnswer (s : State) : State :=
  serveNext (s.withSync { s.sync with waitList := s.sync.waitList.drop 1, answer := none })

/-- The answer and the wait list at the entries into LINE-OFF and DEAF (02 R34). -/
def SyncUnit.clearAnswers (u : SyncUnit) : SyncUnit := { u with waitList := [], answer := none }

/-! ### Claims and releases handed to the cue unit -/

/-- The space wait starts once for the armed cue (03 R62). -/
def beginSpaceWait (s : State) : State :=
  match s.cue.current with
  | some c =>
    if c.spaceBegun then s
    else s.withCue { s.cue with current := some { c with spaceBegun := true }, spaceWait := some Config.spaceWaitMs }
  | none => s

/-- The station is set lead with an ARMED cue whose run key is `k` (03 R62). -/
def armedLead (s : State) (k : Key) : Bool :=
  match s.cue.current with
  | some c => s.isLead && c.phase == .armed && c.runKey == k
  | none => false

/-- What the cue unit does with a CLAIM's verdict (01 R12; 03 R58, R62, R74). -/
def cueAfterClaim (sender : Nat) (k : Key) (v : Verdict) (s : State) : State :=
  let refusedOwn := v.refused && sender == s.strap
  let s1 := if refusedOwn && armedLead s k then beginSpaceWait s else s
  let s2 := if refusedOwn && s1.cue.heldKey == some k && s1.cue.reclaim == .posted then
    s1.withCue { s1.cue with reclaim := .refused } else s1
  testStart s2

/-- The set lead owes a re-claim (03 R74). -/
def owesReclaim (s : State) : Bool :=
  s.isLead && (s.axis.state == .poised || s.axis.state == .holding || s.axis.state == .recovery)
    && s.reg.state == .current
    && match s.cue.held with
      | some h => !hasKey s.reg.table h.key
      | none => false

/-- Whether a re-claim has come to be owed, or is owed no more (03 R74, 11 R192). -/
def trackReclaim (s : State) : State :=
  if owesReclaim s then
    if s.cue.reclaim = .notOwed then s.withCue { s.cue with reclaim := .due } else s
  else s.withCue { s.cue with reclaim := .notOwed }

/-- While the space wait runs, a RELEASE paces the retry of the armed cue's CLAIM (03 R62). -/
def retryClaim (s : State) : State :=
  match s.cue.current with
  | some c =>
    if s.cue.spaceWait.isSome && c.phase == .armed && s.isLead && !hasEntry s.reg.table c.runKey c.box
        && !Line.hasClaim s.line then
      s.postFor .forCue (.claim c.runKey c.box)
    else s
  | none => s

/-- A refused re-claim is posted again at a RELEASE (03 R74). -/
def retryReclaim (s : State) : State :=
  match s.cue.held with
  | some h =>
    if s.cue.reclaim == .refused && owesReclaim s && !Line.hasClaim s.line then s.post (.claim h.key h.box) else s
  | none => s

/-- The held key is cleared by a RELEASE naming it while a cue is RUNNING (03 R73). -/
def clearHeld (k : Key) (s : State) : State :=
  match s.cue.current with
  | some c =>
    if c.phase = .running ∧ s.cue.heldKey = some k then s.withCue { s.cue with held := none } else s
  | none => s

/-- A removal of the run key: a RUNNING cue is cut, a lead's ARMED cue begins its space wait (03 R62, R72). -/
def loseEntry (k : Key) (s : State) : State :=
  match s.cue.current with
  | some c =>
    if c.runKey = k then
      if c.phase = .running then cutRun .claimLost s
      else if s.isLead then beginSpaceWait s else s
    else s
  | none => s

/-- What the cue unit does with a RELEASE (01 R15; 03 R58, R62, R72 to R74). -/
def cueAfterRelease (k : Key) (removed : Bool) (s : State) : State :=
  let s1 := clearHeld k s
  let s2 := if removed then loseEntry k s1 else s1
  testStart (retryReclaim (retryClaim s2))

/-- A CLAIM evaluated against the table now (01 R7). -/
def evaluateClaim (sender : Nat) (k : Key) (b : Box) (s : State) : State :=
  cueAfterClaim sender k (claimVerdict s.reg.zones s.reg.table k b) (s.withReg (AirRegister.claim s.reg k b))

/-- A RELEASE evaluated against the table now (01 R7). -/
def evaluateRelease (k : Key) (s : State) : State :=
  cueAfterRelease k (hasKey s.reg.table k) (s.withReg (AirRegister.release s.reg k))

/-- A held change evaluated (02 R38). -/
def evaluateChange (c : Change) (s : State) : State :=
  match c with
  | .claim sender k b => evaluateClaim sender k b s
  | .release _ k => evaluateRelease k s

/-- A live change: held while COPYING, the ninth failing the attempt, and evaluated otherwise (01 R7, 02 R37). The ninth fails the attempt whole, with the choice that R39 lets follow at once, before the post itself is evaluated: the rules give no order between the two, and this one is the model's choice (log entry 34). -/
def takeChange (c : Change) (s : State) : State :=
  if s.sync.phase = .copying then
    if s.sync.changes.length < Config.maxChanges then
      s.withSync { s.sync with changes := s.sync.changes ++ [c] }
    else evaluateChange c (failAttempt s)
  else evaluateChange c s

/-! ### Discard reports and owed posts -/

/-- A discarded post of the cue unit becomes owed (03 R70). -/
def owe (o : OutPost) (s : State) : State := s.withCue { s.cue with owed := s.cue.owed ++ [⟨o.post, o.use⟩] }

/-- What the block that enqueued a discarded post does with the report (07 R148; 02 R30, R34; 03 R60, R63, R64, R70). -/
def handleReport (o : OutPost) (s : State) : State :=
  match o.post with
  | .sync .. => if s.sync.phase = .posting then failAttempt s else s
  | .tableStart .. | .tableEntry .. | .tableEnd .. => if s.sync.answer.isSome then endAnswer s else s
  | .ready _ sh sg _ => dropMatching sh sg .line s
  | .unready _ sh sg => dropMatching sh sg .unready s
  | .cut .. => if o.use = .spaceWait then dropCue .space true s else owe o s
  | .claim .. | .release .. | .done .. => owe o s
  | .halt .. | .clearStop | .cue .. | .drop .. | .presence .. | .notice .. | .ack .. | .lock .. | .swap ..
  | .verify .. | .verified .. | .loadAim .. | .loadData .. | .loadCommit .. => s

/-- One discard report is acted on. The re-claim follows the state the report finds, so that a cue armed and dropped again within one event has ended the re-claim that the drop makes owed anew (03 R74, 11 R192). -/
def takeReport (o : OutPost) (later : List OutPost) (s : State) : State :=
  handleReport o (trackReclaim (s.withLine { s.line with reports := later }))

/-- The discards of one event are acted on in the order of their reports (log entry 10). -/
def drainReports : Nat → State → State
  | 0, s => s
  | n + 1, s =>
    match s.line.reports with
    | [] => s
    | o :: os => drainReports n (takeReport o os s)

/-- More reports than an event that has made those in `l` can still make (log entry 10). -/
def reportFuel (l : Line) : Nat := l.reports.length + 64

/-- An owed post still applies (03 R70). -/
def owedApplies (s : State) (o : OwedPost) : Bool :=
  match o.post with
  | .release k => hasKey s.reg.table k
  | .claim k b =>
    !hasEntry s.reg.table k b && !Line.hasClaim s.line
      && ((match s.cue.current with
          | some c => c.phase == .armed && c.runKey == k
          | none => false)
        || (owesReclaim s && s.cue.heldKey == some k))
  | _ => true

/-- One owed post enqueued again if it still applies (03 R70). -/
def resend (s : State) (o : OwedPost) : State := if owedApplies s o then s.postFor o.use o.post else s

/-- The first `n` owed posts become none and are enqueued again in order (03 R70). -/
def resendOwed (n : Nat) (s : State) : State :=
  (s.cue.owed.take n).foldl resend (s.withCue { s.cue with owed := s.cue.owed.drop n })

/-! ### What every event ends with -/

/-- The head of the cue queue is eligible (03 R50). -/
def headEligible (s : State) : Bool :=
  match s.cue.queue with
  | [] => false
  | h :: _ =>
    AxisState.atRest s.axis.state && s.reg.state == .current && !s.cue.showStop && s.store.copy.isNone
      && s.line.state == .on && s.cue.owed.isEmpty && (h.trigger.isNone || h.seen)

/-- The chain delay starts when a triggered head becomes eligible and stops when it stops being so (03 R50, R51). -/
def trackChain (s : State) : State :=
  match s.cue.queue with
  | [] => s.withCue { s.cue with chainDelay := none }
  | h :: _ =>
    if h.trigger.isSome && headEligible s then
      if s.cue.chainDelay.isSome then s else s.withCue { s.cue with chainDelay := some h.delay }
    else s.withCue { s.cue with chainDelay := none }

/-- The end of every event: discards reported at it are acted on, the chain delay and the re-claim follow the conditions as they now stand, and the memory port is served. -/
def finish (s : State) : State :=
  let s1 := trackReclaim (trackChain (drainReports (reportFuel s.line) s))
  s1.withStore (Store.servePort s1.store)

/-- An event other than a delivery: nothing acts while the part is held (11 R185). -/
def event (act : State → State) (s : State) : State :=
  match s.power with
  | .held => s
  | .running => finish (act s)

/-! ### Line states -/

/-- The first entry into ON after start (07 R135, 06 R128, 02 R29). -/
def enterOn (s : State) : State :=
  let s1 := s.withLine { s.line with state := .on, silence := none, onLine := none }
  let s2 := s1.withSync { s1.sync with alone := .running }
  s2.askPresence

/-- The entry into LINE-OFF (07 R143; 03 R69; 02 R30, R34; 06 R128). -/
def enterLineOff (s : State) : State :=
  let s1 := s.withLine { s.line with
    state := .lineOff, queue := [], slot := none, further := false, retry := none, onLine := none,
    offTimer := some Config.lineOffMs }
  let s2 := flush (cutRun .line (dropCue .line true s1))
  let s3 := s2.withSync (SyncUnit.clearAnswers (SyncUnit.abandon s2.sync))
  s3.withRoster { s3.roster with presenceTimer := none }

/-- The entry into DEAF (07 R145; 01 R23; 02 R34; 03 R70; 05 R111; 06 R128). -/
def enterDeaf (s : State) : State :=
  let s1 := s.withLine { s.line with
    state := .deaf, queue := [], slot := none, further := false, retry := none, onLine := none,
    offTimer := none }
  let s2 := setRegister .stale s1
  let s3 := s2.withSync (SyncUnit.clearAnswers (SyncUnit.endRound s2.sync))
  let s4 := (s3.withRoster { s3.roster with presenceTimer := none }).withCue { s3.cue with owed := [] }
  detect { noFaults with deaf := true } s4

/-- The owed release at the return to ON (03 R69). -/
def resendRelease (s : State) : State :=
  match s.cue.owedRelease with
  | some k =>
    let s1 := s.withCue { s.cue with owedRelease := none }
    if hasKey s.reg.table k && s.cue.heldKey != some k then s1.post (.release k) else s1
  | none => s

/-- The return from LINE-OFF to ON (07 R143; 06 R128; 03 R69, R70). The owed release goes before the owed posts: R69 and R70 give no order between them, and this one is the model's choice (log entry 35). -/
def returnToOn (s : State) : State :=
  let s1 := s.withLine { s.line with state := .on, txSpoil := 0, offTimer := none }
  let s2 := resendRelease s1.askPresence
  resendOwed s2.cue.owed.length s2

/-! ### Deliveries -/

/-- A post delivered to a JOINING station: it ends JOINING once the station has seen the line idle, and is handed to no block; before that it restarts the silence count (07 R135). -/
def joinAtPost (s : State) : State :=
  match s.line.watch with
  | .following => enterOn s
  | .awaitIdle => s.withLine { s.line with silence := some Config.silenceMs, onLine := none }
  | .notWatching => s

/-- The line interface's own part of a delivery (07 R140): the receive spoil count is cleared, and an own post clears the transmit spoil count and leaves the queue or slot. -/
def Line.afterDelivery (l : Line) (own : Option OutRef) : Line :=
  let l1 := match own with
    | some r => Line.removeDelivered { l with txSpoil := 0 } r
    | none => l
  { l1 with rxSpoil := 0, onLine := none }

/-- The roster's part of every delivery (06 R121). -/
def hear (sender : Fin 48) (s : State) : State :=
  s.withRoster (Roster.put s.roster sender (RosterEntry.heard (s.roster.entry sender.val)))

/-- A post of the outgoing queue, not of the presence slot. -/
def OutRef.inQueue : Option OutRef → Bool
  | some (.queued _) => true
  | some .slot | none => false

/-- A delivery taken in ON or LINE-OFF: line interface, roster, then the blocks (`act`), then the owed posts at an own post's delivery from the outgoing queue (07 R140, 03 R70; log entries 9 and 14). -/
def takeDelivery (sender : Fin 48) (p : Option Post) (act : State → State) (s : State) : State :=
  let own := Line.ownRef s.line (sender.val == s.strap) p
  let n := s.cue.owed.length
  let s1 := s.withLine (Line.afterDelivery s.line own)
  let s2 := act (hear sender s1)
  if OutRef.inQueue own then resendOwed n s2 else s2

/-- The delivery of a post, by line state (07 R134, R140). -/
def deliver (sender : Fin 48) (p : Option Post) (act : State → State) (s : State) : State :=
  match s.power with
  | .held => s
  | .running =>
    match s.line.state with
    | .deaf | .listenOnly => s
    | .joining => finish (joinAtPost s)
    | .on | .lineOff => finish (takeDelivery sender p act s)

end Sys2Proof.Machine
end

