-- ==== Sys2Proof/Machine/AxisLock.lean ====
section
/-! DEFINITION. ACK and leaving FAULTED (05 R106, R114, R115), and the rigging lock: LOCK, UNLOCK and MASTER (10 R178 to R181, 05 R116). -/

namespace Sys2Proof.Machine

/-! ### ACK -/

/-- The kinds whose persisting condition holds, on the inputs of the most recent sample and the brake command in force (05 R106, R114). -/
def persisting (s : State) : FaultSet :=
  let i := s.axis.inputs
  { estop := i.estop, drive := i.driveFault
    overload := decide ((s.conf.overloadThreshold : Int) < i.load)
    brake := i.feedback != s.axis.brake
    follow := false, slack := false
    limit := i.upper || i.lower || decide ((s.conf.maxHaul : Int) < i.haul)
    deaf := true }

/-- The latch set an ACK leaves (05 R114). -/
def acked (kinds : FaultSet) (s : State) : FaultSet :=
  FaultSet.minus s.axis.faults (FaultSet.minus kinds (persisting s))

/-- The axis leaves FAULTED (05 R115). -/
def leaveFaulted (s : State) : State :=
  if s.lock.copy.isSome then s.enterAxis .locked else s.enterAxis (s.restByHaul .holding)

/-- An ACK naming the station delivered (05 R114); outside FAULTED the set is empty. -/
def takeAck (target : Nat) (kinds : FaultSet) (s : State) : State :=
  if target = s.strap ∧ s.axis.state = .faulted ∧ acked kinds s ≠ s.axis.faults then
    let s1 := (s.withAxis { s.axis with faults := acked kinds s }).askPresence
    if FaultSet.isEmpty (acked kinds s) then leaveFaulted s1 else s1
  else s

/-- ACK (05 R114). -/
def execAck (sender : Fin 48) (target : Nat) (kinds : FaultSet) (s : State) : Host.Outcome State Fault Refusal :=
  .next (deliver sender (some (.ack target kinds)) (takeAck target kinds) s)

/-! ### LOCK, UNLOCK, MASTER -/

/-- The kind number of LOCK, the detail of its BUSY (10 R179, R180; 08 R162). -/
def lockKind : Nat := 16

/-- The lock copy changes, and with it the lock record's target (10 R178). -/
def State.setLock (s : State) (v : Option Word) : State :=
  (s.withLock ⟨v⟩).withStore { s.store with lockRec := ⟨s.store.lockRec.stored, v⟩ }

/-- A LOCK accepted: flush, lock copy, axis (10 R179). -/
def acceptLock (code : Word) (s : State) : State := ((flush s).setLock (some code)).enterAxis .locked

/-- A LOCK action (10 R179). -/
def lockTests (sender : Nat) (code : Word) (s : State) : State :=
  if s.lock.copy.isSome then s.notice .already sender none (axisCode s.axis.state)
  else if s.axis.state ≠ .parked then s.notice .notAtRest sender none (axisCode s.axis.state)
  else if s.store.copy.isSome || Store.aloftPending s.store then s.notice .busy sender none lockKind
  else acceptLock code s

/-- A request to unlock at the axis controller (05 R116). -/
def unlockAxis (s : State) : State :=
  if s.axis.state = .locked then
    (s.withAxis { Axis.command s.axis .set with demand := 0 }).enterAxis .parked
  else s

/-- An UNLOCK or MASTER accepted (10 R180). -/
def acceptUnlock (s : State) : State := unlockAxis (s.setLock none)

/-- An UNLOCK or MASTER action, whose code must equal `wanted` (10 R180, R181). -/
def unlockTests (sender : Nat) (flags : Byte) (code wanted : Word) (s : State) : State :=
  if s.lock.copy.isNone then s.notice .already sender none (axisCode s.axis.state)
  else if Store.lockPending s.store then s.notice .busy sender none lockKind
  else if code ≠ wanted then s.notice .wrongCode sender none flags.toNat
  else acceptUnlock s

/-- A LOCK post naming the station, by its action flags (10 R178). -/
def takeLockPost (sender target : Nat) (flags : Byte) (code : Word) (s : State) : State :=
  if target = s.strap then
    match lockAction flags with
    | .bad => s.notice .badFlags sender none flags.toNat
    | .lock => lockTests sender code s
    | .unlock => unlockTests sender flags code (s.lock.copy.getD 0) s
    | .master => unlockTests sender flags code s.conf.masterCode s
  else s

/-- LOCK (10 R179), and a LOCK post with bad flags (10 R178; log entry 28). -/
def execLock (sender : Fin 48) (target : Nat) (flags : Byte) (code : Word) (s : State) :
    Host.Outcome State Fault Refusal :=
  .next (deliver sender (some (.lock target flags code)) (takeLockPost sender.val target flags code) s)

/-- UNLOCK (10 R180). -/
def execUnlock (sender : Fin 48) (target : Nat) (flags : Byte) (code : Word) (s : State) :
    Host.Outcome State Fault Refusal :=
  .next (deliver sender (some (.lock target flags code)) (takeLockPost sender.val target flags code) s)

/-- MASTER (10 R181). -/
def execMaster (sender : Fin 48) (target : Nat) (flags : Byte) (code : Word) (s : State) :
    Host.Outcome State Fault Refusal :=
  .next (deliver sender (some (.lock target flags code)) (takeLockPost sender.val target flags code) s)

end Sys2Proof.Machine
end

