-- ==== Sys2Proof/Machine/Coding.lean ====
section
/-! DEFINITION. Posts as levels on the wires (07 R150): the inserted bits, what a sender drives, the stop of a sender that reads back another level (R138), what a receiver reads and finds (R139), the spoil slot and what its close makes of the post (R136), the idle line. A level is the bit it stands for (07 R137): false is dominant, true is recessive. Times in microseconds are left out (log entry 27). -/

namespace Sys2Proof.Machine

/-- The level of the line under the levels the stations drive: dominant where any drives dominant (07 R137, R150). -/
def lineLevel (driven : List Bool) : Bool := driven.all id

/-- The levels of the line over `n` bit times; a station that drives nothing leaves them recessive (07 R150). -/
def lineLevels (n : Nat) (driven : List (List Bool)) : List Bool :=
  (List.range n).map (fun i => lineLevel (driven.map (fun d => d.getD i true)))

/-! ### Inserted bits -/

/-- The run of equal levels that ends at the last level of the coded fields. -/
structure Run where
  level : Bool
  length : Nat
  deriving DecidableEq, Repr

/-- Before the start bit no run has begun (log entry 38). -/
def Run.start : Run := ⟨true, 0⟩

def Run.next (r : Run) (b : Bool) : Run := ⟨b, if b = r.level then r.length + 1 else 1⟩

/-- Equal levels after which a bit is inserted (07 R150). -/
def Run.limit : Nat := 5

/-- A string of bits with one of the opposite level inserted after every run of five; the inserted bit begins the next run (07 R150; log entry 38). -/
def insertBits : Run → List Bool → List Bool
  | _, [] => []
  | r, b :: bs =>
    if (r.next b).length = Run.limit then b :: (!b) :: insertBits ⟨!b, 1⟩ bs else b :: insertBits (r.next b) bs

/-- The next `k` bits of the levels read, with the inserted ones removed, and the levels that follow; none at six equal levels, and where the levels end before the bits do (07 R139, R150). -/
def takeBits : List Bool → Nat → Run → Option (List Bool × List Bool)
  | [], k, r => if k = 0 ∧ r.length ≠ Run.limit then some ([], []) else none
  | l :: ls, k, r =>
    if r.length = Run.limit then
      if l = r.level then none else takeBits ls k ⟨l, 1⟩
    else
      match k with
      | 0 => some ([], l :: ls)
      | k + 1 => (takeBits ls k (r.next l)).map (fun x => (l :: x.1, x.2))

/-! ### The sender -/

/-- Header, payload and check of a frame, before inserted bits: the dominant start bit first, the check last (08 R152, R153). -/
def Frame.bits (f : Frame) : List Bool := false :: frameBits f.sender f.raw ++ bitsOf 16 f.check.toNat

/-- The coded fields of a frame: header, payload and check with their inserted bits (07 R150). -/
def Frame.coded (f : Frame) : List Bool := insertBits Run.start f.bits

/-- Bit times of the spoil slot (07 R150). -/
def slotBits : Nat := 2

/-- What a station drives in the spoil slot: dominant for both bit times where it spoils the post, and nothing otherwise (07 R139, R150). -/
def slotLevels (spoils : Bool) : List Bool := List.replicate slotBits (!spoils)

/-- Bit times of the end mark, recessive (07 R150). -/
def endBits : Nat := 6

def endMark : List Bool := List.replicate endBits true

/-- The levels a sender drives for a frame that nothing disturbs: the coded fields, the spoil slot undriven, the end mark (07 R150). -/
def Frame.levels (f : Frame) : List Bool := f.coded ++ slotLevels false ++ endMark

/-- What a sender of these coded fields drives at each bit time of the fields on the line, reading every bit back: from the first level that is not the one it drove it drives nothing more (07 R138). -/
def sent : List Bool → List Bool → List Bool
  | _, [] => []
  | [], _ :: rs => true :: sent [] rs
  | d :: ds, r :: rs => if d = r then d :: sent ds rs else d :: rs.map (fun _ => true)

/-- Bit times of a post before inserted bits (07 R150): 44 with no payload, 8 more for each byte. -/
def bitTimes (raw : RawPost) : Nat := 44 + 8 * raw.payload.length

/-! ### The receiver -/

/-- A frame as received: the header as read, the payload, the check as read, whether a coding fault was seen or the post was cut short, and the levels after the check. -/
structure Received where
  sender : Nat
  length : Nat
  raw : RawPost
  check : Word
  broken : Bool
  tail : List Bool
  deriving DecidableEq, Repr

/-- The number that bits spell, most significant first. -/
def numOf (bits : List Bool) : Nat := bits.foldl (fun n b => 2 * n + b.toNat) 0

/-- `w` bits from place `i` of a string, as a number. -/
def field (bits : List Bool) (i w : Nat) : Nat := numOf ((bits.drop i).take w)

/-- A post cut short, or with a coding fault. -/
def Received.faulty : Received := ⟨0, 0, ⟨0, 0, []⟩, 0, true, []⟩

/-- What a receiver reads of a post from the levels of the line, its start bit first: the header's length field says how many bits follow to the end of the check. A length above 16 spoils the post whatever else it carries, and its payload is not read (07 R139, 08 R152). -/
def Received.read (levels : List Bool) : Received :=
  match takeBits levels 20 Run.start with
  | none => Received.faulty
  | some (h, _) =>
    let len := field h 15 5
    match takeBits levels (36 + 8 * len) Run.start with
    | none => Received.faulty
    | some (bs, tail) =>
      { sender := field bs 4 6, length := len
        raw := ⟨field bs 1 3, field bs 10 5,
          if 16 < len then [] else (List.range len).map (fun i => byte (field bs (20 + 8 * i) 8))⟩
        check := BitVec.ofNat 16 (field bs (20 + 8 * len) 16), broken := false, tail := tail }

/-- What a station in ON or LINE-OFF finds by its check at the spoil slot; none: it leaves the slot undriven (07 R139). -/
def receiveFinding (f : Received) : Option SpoilCause :=
  if f.broken then some .coding
  else if 16 < f.length then some .longLength
  else if 47 < f.sender then some .badSender
  else if f.check ≠ frameCheck f.sender f.raw then some .checkDiffers
  else none

/-- What the sender finds of its own post: its own check on the levels read, or else a level of its coded fields read back that is not the one it drove (07 R138, R139, R144). Another station's drive of the spoil slot is no finding of its own. -/
def ownFinding (f : Frame) (read : List Bool) : Option SpoilCause :=
  match receiveFinding (Received.read read) with
  | some c => some c
  | none => if (f.coded.zip read).any (fun x => x.1 != x.2) then some .readBack else none

/-! ### The close of a post -/

/-- The levels read in the spoil slot. -/
def Received.slot (f : Received) : List Bool := f.tail.take slotBits

/-- No station drove the spoil slot: both its bit times are recessive (07 R136, R150). -/
def Received.undriven (f : Received) : Bool := f.slot == slotLevels false

/-- What the close of the spoil slot makes of a post at a station with this finding: the delivery where the slot was left undriven and the station found nothing, and a spoiled post otherwise (07 R135, R136, R140). -/
def Received.close (finding : Option SpoilCause) (f : Received) : Instr :=
  if h : f.undriven = true ∧ finding = none ∧ f.sender < 48 then commandOf ⟨f.sender, h.2.2⟩ f.raw
  else .postSpoiled finding

/-- The end mark has ended, and with it the line is idle for a station that follows posts (07 R136, R150). -/
def Received.idle (f : Received) : Bool := (f.tail.drop slotBits).take endBits == endMark

/-- The bit times of the coded fields among the levels read. -/
def fieldTimes (read : List Bool) : List Bool := read.take (read.length - (Received.read read).tail.length)

/-- What the sender of a frame drives while the line shows these levels: its fields until it reads back another level, then the spoil slot, dominant where it has found a cause or has withdrawn the post, then the end mark (07 R138, R139, R149, R150). Where a coding fault hides the end of the fields the slot follows the levels read (log entry 38). -/
def Frame.driven (f : Frame) (withdrawn : Bool) (read : List Bool) : List Bool :=
  sent f.coded (fieldTimes read) ++ slotLevels (withdrawn || (ownFinding f read).isSome) ++ endMark

/-! ### The idle line -/

/-- Recessive bit times by which a station that is joining or has lost track of posts sees the line idle (07 R150). -/
def idleBits : Nat := 10

/-- The line shows ten consecutive recessive bit times at some point, `n` of them before these levels (07 R150). -/
def idleSeen : Nat → List Bool → Bool
  | n, [] => decide (idleBits ≤ n)
  | n, l :: ls => decide (idleBits ≤ n) || idleSeen (if l then n + 1 else 0) ls

end Sys2Proof.Machine
end

