-- ==== Sys2Proof/Machine/LineEvents.lean ====
section
/-! DEFINITION. Events of the rig line and of the line interface's timers: a post begins (07 R136, R137), ends spoiled (R138 to R145), is not fitting (08 R154); joining (R135), the end of LINE-OFF (R143), and presence pacing (06 R125, R126). -/

namespace Sys2Proof.Machine

/-! ### What a PRESENCE carries -/

/-- A measured value as a field of signed bits holds it: the nearest value it holds (08 R160). -/
def clampTo (lo hi v : Int) : Int := if v < lo then lo else if hi < v then hi else v

/-- The station's PRESENCE, filled when it begins on the line (06 R125, 08 R160). -/
def presenceNow (s : State) : Presence :=
  { axis := some s.axis.state, reg := some s.reg.state, flyer := s.flyer
    activeShow := bankShow s.store.working.words, generation := s.reg.generation
    runSegment := s.cue.current.map (·.segment), stepIndex := s.engine.stepIndex
    haul := clampTo (-8388608) 8388607 s.axis.inputs.haul
    load := clampTo (-32768) 32767 s.axis.inputs.load
    faults := s.axis.faults, showStop := s.cue.showStop
    swapPending := s.store.swapPending.isSome, swapping := s.store.copy.isSome
    locked := s.lock.copy.isSome, bankForced := s.store.pinForced }

/-! ### POST_BEGIN -/

/-- The pair (class, sender) of the station's post goes before a contender's, or is equal to it (07 R137; the equal pair is R138's duplicated number). -/
def winsOver (cls strap : Nat) (c : Contender) : Bool :=
  decide (cls < c.cls) || (cls == c.cls && decide (strap ≤ c.sender))

/-- The post the station enters when contention opens: only in ON (07 R137, R147). -/
def entered (s : State) : Option Candidate := if s.line.state = .on then Line.select s.line else none

/-- A TABLE-START is stamped with the generation and the number of entries (02 R32). -/
def stampTableStart (r : AirRegister) : Post → Post
  | .tableStart q _ _ => .tableStart q r.generation r.table.length
  | p => p

/-- A queued post is a TABLE-START of age `a`. -/
def isTableStartOf (a : Nat) (o : OutPost) : Bool :=
  o.age == a && match o.post with
    | .tableStart .. => true
    | _ => false

/-- The stamps of a post of the queue: a TABLE-START's fields and the answer's snapshot (02 R32). -/
def stampQueued (a : Nat) (s : State) : State :=
  if s.line.queue.any (isTableStartOf a) then
    let s1 := s.withLine { s.line with
      queue := s.line.queue.map (fun o => if o.age = a then { o with post := stampTableStart s.reg o.post } else o) }
    s1.withSync { s1.sync with answer := some ⟨some ⟨s.reg.generation, s.reg.table⟩⟩ }
  else s

/-- The station's own post begins on the line and is stamped (07 R136). -/
def beginOwn (ref : OutRef) (s : State) : State :=
  let s1 := s.withLine { s.line with onLine := some (.own ref) }
  match ref with
  | .queued a => stampQueued a s1
  | .slot => s1.withLine { s1.line with slot := s1.line.slot.map (fun p => ⟨p.age, some (presenceNow s)⟩) }

/-- Another station's post begins: a JOINING station's silence ends there (07 R135). -/
def beginOther (s : State) : State :=
  match s.line.state with
  | .on | .lineOff => s.withLine { s.line with onLine := some .other }
  | .joining =>
    if s.line.watch = .notWatching then s
    else s.withLine { s.line with onLine := some .other, silence := none }
  | .deaf | .listenOnly => s

/-- Contention on an idle line among the station's post and the other contenders (07 R137). -/
def contend (others : List Contender) (s : State) : State :=
  match s.line.onLine with
  | some _ => s
  | none =>
    match entered s with
    | some c =>
      if others.all (winsOver c.cls s.strap) then beginOwn c.ref s else beginOther s
    | none => if others.isEmpty then s else beginOther s

/-- POST_BEGIN (07 R136, R137): the contention that opens now, with the other stations' entries. -/
def execPostBegin (others : List Contender) (s : State) : Host.Outcome State Fault Refusal :=
  .next (event (contend others) s)

/-- The station's own post on the line, as it was stamped when it began (07 R136). -/
def postOnLine (s : State) : Option Post :=
  match s.line.onLine with
  | some (.own (.queued a)) => (s.line.queue.find? (fun o => o.age == a)).map (·.post)
  | some (.own .slot) => (s.line.slot.bind (·.stamped)).map .presence
  | some .withdrawn | some .other | none => none

/-- The frame the station sends while its own post is on the line: its number in the sender field, and the check it computes (08 R152, R153). -/
def frameOnLine (s : State) : Option Frame := (postOnLine s).map (Frame.of s.strap)

/-! ### The spoil slot -/

/-- What the station finds of the post that passes, its own or another's (07 R138, R139). -/
def findingOf (s : State) (read : List Bool) : Option SpoilCause :=
  match frameOnLine s with
  | some f => ownFinding f read
  | none => receiveFinding (Received.read read)

/-- The station drives the spoil slot: in ON and LINE-OFF, where it has found a cause, or for a post of its own that it has withdrawn; a JOINING, DEAF or LISTEN-ONLY station and a part without power never do (07 R138, R139, R149, R150). -/
def drivesSlot (s : State) (finding : Option SpoilCause) : Bool :=
  match s.power, s.line.state with
  | .held, _ => false
  | .running, .on | .running, .lineOff => s.line.onLine == some .withdrawn || finding.isSome
  | .running, .joining | .running, .deaf | .running, .listenOnly => false

/-- The levels the station drives in the spoil slot of a post of which it has read these levels (07 R150). -/
def slotDriven (s : State) (read : List Bool) : List Bool := slotLevels (drivesSlot s (findingOf s read))

/-- The command that the close of a post's spoil slot is to the station, from the levels it read on the line, slot included (07 R135, R136, R140, R141). -/
def closeOf (s : State) (read : List Bool) : Instr := (Received.read read).close (findingOf s read)

/-! ### POST_SPOILED -/

/-- The station's own check failed on the post (07 R139, R144); a read-back difference is no check (R138). -/
def ownCheckFailed : Option SpoilCause → Bool
  | some .readBack | none => false
  | some _ => true

/-- The spoiled post's place in the counts (07 R141, R142, R144): an own post becomes the retry post and raises the transmit count; a withdrawn one changes nothing (R149). -/
def countSpoil (finding : Option SpoilCause) (l : Line) : Line :=
  let rx := if ownCheckFailed finding then l.rxSpoil + 1 else l.rxSpoil
  match l.onLine with
  | some .withdrawn => { l with onLine := none }
  | some (.own r) =>
    { l with
      onLine := none, retry := some r, txSpoil := l.txSpoil + 1, rxSpoil := rx
      further := if r = .slot then false else l.further }
  | some .other | none => { l with onLine := none, rxSpoil := rx }

/-- The entries that a count reaching 8 makes, LINE-OFF before DEAF (07 R142 to R145; log entry 11). -/
def spoilLimits (before : Line) (s : State) : State :=
  let s1 := if s.line.txSpoil ≠ before.txSpoil ∧ Config.spoilLimit ≤ s.line.txSpoil then enterLineOff s else s
  if s1.line.rxSpoil ≠ before.rxSpoil ∧ Config.spoilLimit ≤ s1.line.rxSpoil then enterDeaf s1 else s1

/-- A post ends spoiled, by line state (07 R134, R135). -/
def spoil (finding : Option SpoilCause) (s : State) : State :=
  match s.line.state with
  | .on | .lineOff => spoilLimits s.line (s.withLine (countSpoil finding s.line))
  | .joining =>
    if s.line.watch = .notWatching then s
    else s.withLine { s.line with onLine := none, silence := some Config.silenceMs }
  | .deaf | .listenOnly => s

/-- POST_SPOILED (07 R141): a post ends with its spoil slot driven. The finding is what the station itself found; at a JOINING station the row also stands for a post whose check failed there (R135; log entry 24). -/
def execPostSpoiled (finding : Option SpoilCause) (s : State) : Host.Outcome State Fault Refusal :=
  .next (event (spoil finding) s)

/-! ### Posts taken by the roster alone -/

/-- UNFITTING_POST (08 R154): handed to the roster alone, whatever it carries. -/
def execUnfittingPost (sender : Fin 48) (_raw : RawPost) (s : State) : Host.Outcome State Fault Refusal :=
  .next (deliver sender none id s)

/-! ### Timers and idle line -/

/-- The end of LINE-OFF (07 R143). -/
def lineOffEnds (s : State) : State :=
  if s.line.state = .lineOff ∧ s.line.offTimer.isSome then returnToOn s else s

/-- LINE_OFF_TIMER_EXPIRY (07 R143). -/
def execLineOffTimerExpiry (s : State) : Host.Outcome State Fault Refusal := .next (event lineOffEnds s)

/-- The end of 100 ms of silence in JOINING (07 R135). -/
def silenceEnds (s : State) : State :=
  if s.line.state = .joining ∧ s.line.silence.isSome then enterOn s else s

/-- JOIN_SILENCE_EXPIRY (07 R135). -/
def execJoinSilenceExpiry (s : State) : Host.Outcome State Fault Refusal := .next (event silenceEnds s)

/-- An idle line carries no post: one of another station's that the station has lost track of is over, and a JOINING station counts its silence from there (07 R135, R150; log entry 38). -/
def Line.loseTrack (l : Line) : Line :=
  match l.onLine with
  | some .other =>
    { l with onLine := none, silence := if l.state = .joining then some Config.silenceMs else l.silence }
  | some (.own _) | some .withdrawn | none => l

/-- The station sees the line idle by ten recessive bit times (07 R135, R150). -/
def seeIdle (s : State) : State :=
  match s.line.state with
  | .on | .lineOff => s.withLine (Line.loseTrack s.line)
  | .joining =>
    if s.line.watch = .notWatching then s else s.withLine { Line.loseTrack s.line with watch := .following }
  | .deaf | .listenOnly => s

/-- LINE_IDLE_SEEN (07 R135, R150): a station that is joining, or has lost track of posts, sees the line idle. -/
def execLineIdleSeen (s : State) : Host.Outcome State Fault Refusal := .next (event seeIdle s)

/-- The presence timer expires (06 R126). -/
def presenceDue (s : State) : State :=
  if s.roster.presenceTimer.isSome then
    (s.withRoster { s.roster with presenceTimer := none }).askPresence
  else s

/-- PRESENCE_TIMER_EXPIRY (06 R126). -/
def execPresenceTimerExpiry (s : State) : Host.Outcome State Fault Refusal := .next (event presenceDue s)

end Sys2Proof.Machine
end

