-- ==== Sys2Proof/Machine/CuePosts.lean ====
section
/-! DEFINITION. HALT and CLEAR-STOP (03 R67, R68), the posts of cues and of the set start (03 R47 to R66), the ready wait, space wait and chain delay (R51, R60, R63), and taking a cue (R52, R53). -/

namespace Sys2Proof.Machine

/-! ### HALT and CLEAR-STOP -/

/-- What a HALT that takes the station in does to its cue: a drop, a cut, or nothing (03 R67). -/
def stopCue (s : State) : State := cutRun .halt (dropCue .halt true s)

/-- A HALT delivered (03 R67, R68); UNCONFIGURED takes no effect. -/
def takeHalt (scope : Nat) (s : State) : State :=
  if haltIllCoded scope || !scopeHits scope s.flyer || s.axis.state == .unconfigured then s
  else
    let s1 := flush (stopCue s)
    if scope = absentByte then s1.withCue { s1.cue with showStop := true } else s1

/-- HALT (03 R67). -/
def execHalt (sender : Fin 48) (scope reason : Nat) (s : State) : Host.Outcome State Fault Refusal :=
  .next (deliver sender (some (.halt scope reason)) (takeHalt scope) s)

/-- CLEAR-STOP delivered: the latch is cleared and the show-stop watch's waiting HALT is withdrawn (03 R68, 06 R131). -/
def takeClearStop (s : State) : State :=
  (s.withCue { s.cue with showStop := false }).withdraw isShowHalt

/-- CLEAR_STOP (03 R68). -/
def execClearStop (sender : Fin 48) (s : State) : Host.Outcome State Fault Refusal :=
  .next (deliver sender (some .clearStop) takeClearStop s)

/-! ### CUE -/

/-- The refusal of a CUE, by the first test that fails (03 R47). -/
def cueRefusal (showNo segment : Nat) (s : State) : Option NoticeCode :=
  if s.lock.copy.isSome then some .locked
  else if s.cue.showStop then some .showStop
  else if s.store.copy.isSome then some .busy
  else if s.store.swapPending.isSome then some .swapPending
  else if Config.maxCues ≤ s.cue.queue.length then some .queueFull
  else if s.cue.queue.any (fun e => e.showNo == showNo && e.segment == segment) then some .duplicate
  else none

/-- The cue joins the queue at its tail (03 R45, R47). -/
def appendCue (e : CueEntry) (s : State) : State := s.withCue { s.cue with queue := s.cue.queue ++ [e] }

/-- The queue entry a CUE makes; the delay is in units of 10 ms (03 R45, 08 R158). -/
def cueEntryOf (sender flyer showNo segment reps trigStation trigSegment delay : Nat) : CueEntry :=
  { caller := sender, flyer := flyer, showNo := showNo, segment := segment, reps := reps
    trigger := cueTrigger trigStation trigSegment
    delay := if (cueTrigger trigStation trigSegment).isSome then 10 * delay else 0
    seen := false }

/-- A CUE delivered (03 R47). -/
def takeCuePost (e : CueEntry) (s : State) : State :=
  if e.flyer = s.flyer then
    match cueRefusal e.showNo e.segment s with
    | some code => s.notice code e.caller (noticeSegment e.segment) e.showNo
    | none => appendCue e s
  else s

/-- CUE (03 R47). -/
def execCue (sender : Fin 48) (flyer showNo segment reps trigStation trigSegment delay : Nat) (s : State) :
    Host.Outcome State Fault Refusal :=
  .next (deliver sender (some (.cue flyer showNo segment reps trigStation trigSegment delay))
    (if cueIllCoded trigStation trigSegment then id
     else takeCuePost (cueEntryOf sender.val flyer showNo segment reps trigStation trigSegment delay)) s)

/-! ### DROP -/

/-- A queue entry has this show and segment. -/
def CueEntry.names (e : CueEntry) (showNo segment : Nat) : Bool := e.showNo == showNo && e.segment == segment

/-- A matching queue entry is removed; at the head its chain delay stops (03 R66). -/
def removeQueued (showNo segment : Nat) (s : State) : State :=
  let headGoes := match s.cue.queue with
    | h :: _ => h.names showNo segment
    | [] => false
  s.withCue { s.cue with
    queue := s.cue.queue.filter (fun e => !e.names showNo segment)
    chainDelay := if headGoes then none else s.cue.chainDelay }

/-- A DROP of a running cue comes too late (03 R66). -/
def tooLate (sender showNo segment : Nat) (s : State) : State :=
  match s.cue.current with
  | some c =>
    if c.phase = .running ∧ c.showNo = showNo ∧ c.segment = segment then
      s.notice .tooLate sender (noticeSegment segment) showNo
    else s
  | none => s

/-- A DROP delivered (03 R66); a segment above 47 matches nothing (08 R159). -/
def takeDrop (sender flyer showNo segment : Nat) (s : State) : State :=
  if flyer = s.flyer ∧ segment ≤ 47 then
    tooLate sender showNo segment (dropMatching showNo segment .drop (removeQueued showNo segment s))
  else s

/-- DROP (03 R66). -/
def execDrop (sender : Fin 48) (flyer showNo segment : Nat) (s : State) : Host.Outcome State Fault Refusal :=
  .next (deliver sender (some (.drop flyer showNo segment)) (takeDrop sender.val flyer showNo segment) s)

/-! ### READY, UNREADY, DONE, CUT -/

/-- The slot of a member takes a value; members and slots stand in one order (03 R55). -/
def setSlot (members : List Nat) (m : Nat) (v : Option (Nat × Nat)) (slots : List (Option (Nat × Nat))) :
    List (Option (Nat × Nat)) :=
  List.zipWith (fun n x => if n = m then v else x) members slots

/-- A member's slot in the set ready table is written or emptied (03 R55, R56). -/
def State.putSlot (s : State) (m : Nat) (v : Option (Nat × Nat)) : State :=
  s.withCue { s.cue with slots := setSlot s.members m v s.cue.slots }

/-- A READY concerns the station's set (03 R55). -/
def readyConcerns (sender flyer : Nat) (s : State) : Bool := flyer == s.flyer || s.isMember sender

/-- A matching READY (03 R55). -/
def readyMatches (sender flyer : Nat) (members : List Nat) (s : State) : Bool :=
  s.isMember sender && flyer == s.flyer && members == s.members

/-- At its own READY the station with an ARMED cue of that show and segment starts the ready wait (03 R54). -/
def startReadyWait (showNo segment : Nat) (s : State) : State :=
  match s.cue.current with
  | some c =>
    if c.phase = .armed ∧ c.showNo = showNo ∧ c.segment = segment then
      s.withCue { s.cue with readyWait := some Config.readyWaitMs }
    else s
  | none => s

/-- A matching READY is recorded (03 R54, R55). -/
def recordReady (sender showNo segment : Nat) (s : State) : State :=
  let s1 := s.putSlot sender (some (showNo, segment))
  if sender = s.strap then startReadyWait showNo segment s1 else s1

/-- A mismatched READY (03 R57). -/
def mismatchReady (sender showNo segment : Nat) (s : State) : State :=
  dropMatching showNo segment .setMismatch (s.notice .setMismatch sender (noticeSegment segment) showNo)

/-- A READY delivered, and the test of the start condition (03 R55, R57, R58). -/
def takeReady (sender flyer showNo segment : Nat) (members : List Nat) (s : State) : State :=
  testStart
    (if readyConcerns sender flyer s then
      if readyMatches sender flyer members s then recordReady sender showNo segment s
      else mismatchReady sender showNo segment s
    else s)

/-- READY (03 R55). -/
def execReady (sender : Fin 48) (flyer showNo segment : Nat) (members : List Nat) (s : State) :
    Host.Outcome State Fault Refusal :=
  .next (deliver sender (some (.ready flyer showNo segment members))
    (if readyIllCoded members then id else takeReady sender.val flyer showNo segment members) s)

/-- An UNREADY delivered from a member (03 R61); a segment above 47 matches no cue (08 R159). -/
def takeUnready (sender showNo segment : Nat) (s : State) : State :=
  if s.isMember sender then
    let s1 := s.putSlot sender none
    if segment ≤ 47 then dropMatching showNo segment .unready s1 else s1
  else s

/-- UNREADY (03 R61). The rule names the member, not its flyer (log entry 15). -/
def execUnready (sender : Fin 48) (flyer showNo segment : Nat) (s : State) : Host.Outcome State Fault Refusal :=
  .next (deliver sender (some (.unready flyer showNo segment)) (takeUnready sender.val showNo segment) s)

/-- A DONE sets trigger seen in every entry waiting on it (03 R49). -/
def takeDone (sender segment : Nat) (s : State) : State :=
  s.withCue { s.cue with
    queue := s.cue.queue.map (fun e => if e.trigger = some (sender, segment) then { e with seen := true } else e) }

/-- DONE (03 R49). -/
def execDone (sender : Fin 48) (flyer segment reps : Nat) (s : State) : Host.Outcome State Fault Refusal :=
  .next (deliver sender (some (.done flyer segment reps)) (takeDone sender.val segment) s)

/-- The set lead's CUT(SPACE) drops an ARMED cue for that segment; the station whose own CUT it is posts no second one (03 R63, R65). -/
def spaceCut (sender segment : Nat) (s : State) : State :=
  match s.cue.current with
  | some c => if c.segment = segment then dropCue .space (sender != s.strap) s else s
  | none => s

/-- A CUT delivered from a member (03 R56, R63). -/
def takeCut (sender segment reason : Nat) (s : State) : State :=
  if s.isMember sender then
    let s1 := s.putSlot sender none
    if s.leadIs sender && reason == CutReason.space.code then spaceCut sender segment s1 else s1
  else s

/-- CUT (03 R56). The rule names the member, not its flyer (log entry 15). -/
def execCut (sender : Fin 48) (flyer segment remaining step reason : Nat) (s : State) :
    Host.Outcome State Fault Refusal :=
  .next (deliver sender (some (.cut flyer segment remaining step reason)) (takeCut sender.val segment reason) s)

/-! ### The ready wait and the space wait -/

/-- The ready wait expires (03 R60). -/
def readyWaitEnds (s : State) : State :=
  if s.cue.readyWait.isSome then
    let s1 := s.withCue { s.cue with readyWait := none }
    match s.cue.current with
    | some c => if c.phase = .armed then s1.post (.unready s.flyer c.showNo c.segment) else s1
    | none => s1
  else s

/-- READY_WAIT_EXPIRY (03 R60). -/
def execReadyWaitExpiry (s : State) : Host.Outcome State Fault Refusal := .next (event readyWaitEnds s)

/-- The space wait expires (03 R63). -/
def spaceWaitEnds (s : State) : State :=
  if s.cue.spaceWait.isSome then
    let s1 := s.withCue { s.cue with spaceWait := none }
    match s.cue.current with
    | some c =>
      if c.phase = .armed then s1.postFor .spaceWait (.cut s.flyer c.segment c.reps 0 CutReason.space.code) else s1
    | none => s1
  else s

/-- SPACE_WAIT_EXPIRY (03 R63). -/
def execSpaceWaitExpiry (s : State) : Host.Outcome State Fault Refusal := .next (event spaceWaitEnds s)

/-! ### Taking a cue -/

/-- The repetitions of a taken cue (03 R46, R52). -/
def resolvedReps (h : CueEntry) (g : Segment) : Nat := if h.reps = 0 then g.defaultReps else h.reps

/-- The repetitions a mode allows (03 R52). -/
def repsAllowed : Option Mode → Nat → Bool
  | some .swing, n => decide (1 ≤ n) && decide (n ≤ 255)
  | some _, n => n == 1
  | none, _ => false

/-- The refusal of a head at taking, by the first test that fails (03 R52). -/
def takeRefusal (h : CueEntry) (s : State) : Option NoticeCode :=
  let ws := s.store.working.words
  let g := segmentOf ws h.segment
  if !s.store.working.valid then some .bankInvalid
  else if h.showNo ≠ bankShow ws then some .showMismatch
  else if 47 < h.segment ∨ g.mode = none then some .noSegment
  else if !repsAllowed g.mode (resolvedReps h g) then some .badReps
  else if (g.tolerance : Int) < |s.axis.inputs.haul - (g.startHaul : Int)| then some .startMismatch
  else if s.axis.state = .recovery ∧ g.lowering = false then some .notLowering
  else none

/-- The head leaves the queue and its chain delay stops (03 R45, R51). -/
def popHead (s : State) : State := s.withCue { s.cue with queue := s.cue.queue.tail, chainDelay := none }

/-- The current cue an armed head becomes (03 R46). -/
def armedCue (h : CueEntry) (s : State) : CurrentCue :=
  let g := segmentOf s.store.working.words h.segment
  { phase := .armed, caller := h.caller, showNo := h.showNo, segment := h.segment
    reps := resolvedReps h g, runKey := ⟨s.flyer, g.tag⟩, box := g.box, landing := g.landing
    spaceBegun := false }

/-- The posts of arming: READY, and at the set lead CLAIM (03 R53). -/
def armPosts (c : CurrentCue) (s : State) : State :=
  let s1 := s.post (.ready s.flyer c.showNo c.segment s.members)
  if s1.isLead then s1.postFor .forCue (.claim c.runKey c.box) else s1

/-- The head is armed (03 R53, 05 R99). -/
def arm (h : CueEntry) (s : State) : State :=
  let c := armedCue h s
  let s1 := popHead s
  let s2 := s1.withCue { s1.cue with current := some c }
  let s3 := (s2.withAxis { s2.axis with origin := some s.axis.state }).enterAxis .armed
  armPosts c (s3.putSlot s3.strap none)

/-- The head is tested, and refused or armed (03 R52, R53). -/
def takeHead (h : CueEntry) (s : State) : State :=
  match takeRefusal h s with
  | some code => (popHead s).notice code h.caller (noticeSegment h.segment) h.showNo
  | none => arm h s

/-- An eligible untriggered head is taken (03 R50). -/
def takeUntriggered (s : State) : State :=
  match s.cue.queue with
  | h :: _ => if headEligible s && h.trigger.isNone then takeHead h s else s
  | [] => s

/-- TAKE_CUE (03 R52; log entry 1). -/
def execTakeCue (s : State) : Host.Outcome State Fault Refusal := .next (event takeUntriggered s)

/-- The chain delay expires with the head still eligible: the head is taken (03 R51). -/
def chainEnds (s : State) : State :=
  match s.cue.queue with
  | h :: _ => if s.cue.chainDelay.isSome && headEligible s then takeHead h s else s
  | [] => s

/-- CHAIN_DELAY_EXPIRY (03 R51). -/
def execChainDelayExpiry (s : State) : Host.Outcome State Fault Refusal := .next (event chainEnds s)

end Sys2Proof.Machine
end

