-- ==== Sys2Proof/Machine/Presences.lean ====
section
/-! DEFINITION. PRESENCE at its receivers: roster, agree marks, divergence, choice, skew monitor, show-stop watch (06 R122, R130, R131; 02 R27, R29, R41, R42), lapse (06 R123, R129), and the posts only the roster takes (NOTICE, VERIFIED: 08 R161, R162). -/

namespace Sys2Proof.Machine

/-! ### Agree marks and divergence -/

/-- A winch station 0-31 other than the station itself (02 R27). -/
def State.isPeer (s : State) (n : Nat) : Bool := decide (n < 32) && n != s.strap

/-- The mark a peer's PRESENCE gives it (02 R41); a report of no register state leaves it (log entry 17). -/
def markAfter (s : State) (p : Presence) (old : Mark) : Mark :=
  if s.reg.state ≠ .current then .unmarked
  else
    match p.reg with
    | some .current => if p.generation = s.reg.generation then .agrees else .disagrees
    | some .syncing | some .stale => .unmarked
    | none => old

/-- The roster records a PRESENCE, and the register marks a peer (06 R122, 02 R41). -/
def recordPresence (sender : Fin 48) (p : Presence) (s : State) : State :=
  let e := RosterEntry.report (s.roster.entry sender.val) p
  let e1 := if s.isPeer sender.val then { e with mark := markAfter s p e.mark } else e
  s.withRoster (Roster.put s.roster sender e1)

/-- A peer's PRESENCE has been seen since joining (02 R26, R29). -/
def seeWinch (sender : Nat) (s : State) : State :=
  if s.isPeer sender then s.withSync { s.sync with winchSeen := true } else s

/-- The present winch peers that report CURRENT and carry a mark (02 R42). -/
def marked (m : Mark) (s : State) : Nat :=
  (s.peers.filter (fun n => (s.roster.entry n).reportsCurrent && (s.roster.entry n).mark == m)).length

/-- The divergence judgement (02 R42). -/
def judgeDivergence (s : State) : State :=
  if s.reg.state = .current ∧ marked .agrees s < marked .disagrees s then
    (setRegister .stale s).notice .diverged s.strap none (marked .disagrees s)
  else s

/-- At the delivery of the station's own PRESENCE the presence timer starts again and divergence is judged (06 R126, 02 R42). -/
def ownPresence (s : State) : State :=
  judgeDivergence (s.withRoster { s.roster with presenceTimer := some Config.presenceMs })

/-! ### Skew monitor and show-stop watch -/

/-- The difference of two step indices. -/
def stepGap (a b : Nat) : Nat := (a - b) + (b - a)

/-- A flying member out of step with the station's run (06 R130; log entry 16). -/
def skewCase (e : RosterEntry) (s : State) : Bool :=
  e.axis == some .flying
    && if e.flyer = some s.flyer ∧ e.runSegment = s.cue.current.map (·.segment) then
        decide (s.conf.skewLimit < stepGap (e.stepIndex.getD 0) s.engine.stepIndex)
      else true

/-- The skew monitor at a PRESENCE of another member (06 R130). -/
def watchSkew (sender : Nat) (s : State) : State :=
  if s.isMember sender && sender != s.strap && s.axis.state == .flying && !s.roster.skewReported
      && skewCase (s.roster.entry sender) s then
    (s.withRoster { s.roster with skewReported := true }).post (.halt s.flyer HaltReason.skew.code)
  else s

/-- The show-stop watch at a PRESENCE of a winch peer (06 R131). -/
def watchShowStop (sender : Nat) (s : State) : State :=
  if s.isPeer sender && (s.roster.entry sender).showStop == some true && !s.cue.showStop
      && s.line.state == .on && !s.line.queue.any isShowHalt then
    s.post (.halt absentByte HaltReason.showStop.code)
  else s

/-- A PRESENCE delivered; the roster records it before anything else acts on it (06 R122). The choice is made at a desk's PRESENCE too: R27 has it made at the delivery of any PRESENCE, R160 keeps one from stations 32-47 out of the register's rules, and that the choice is no part of what R160 keeps out is the model's reading (log entry 33). -/
def takePresence (sender : Fin 48) (p : Presence) (s : State) : State :=
  let s1 := seeWinch sender.val (recordPresence sender p s)
  let s2 := if sender.val = s.strap then ownPresence s1 else s1
  watchShowStop sender.val (watchSkew sender.val (choice s2))

/-- PRESENCE (06 R122). -/
def execPresence (sender : Fin 48) (p : Presence) (s : State) : Host.Outcome State Fault Refusal :=
  .next (deliver sender (some (.presence p)) (takePresence sender p) s)

/-! ### Posts the roster alone takes -/

/-- NOTICE (08 R162). -/
def execNotice (sender : Fin 48) (n : Notice) (s : State) : Host.Outcome State Fault Refusal :=
  .next (deliver sender (some (.notice n)) id s)

/-- VERIFIED (08 R161): no JU4820 acts on it. -/
def execVerified (sender : Fin 48) (showNo result segment : Nat) (s : State) : Host.Outcome State Fault Refusal :=
  .next (deliver sender (some (.verified showNo result segment)) id s)

/-! ### Lapse -/

/-- The station would halt its set at a member's lapse (06 R129). -/
def lapseHalts (s : State) : Bool :=
  s.axis.state == .armed || s.axis.state == .flying || s.axis.state == .stopping || !s.cue.queue.isEmpty

/-- The lapse of another member: its slot is emptied, and the lapse halt is considered (06 R123, R129). -/
def memberLapses (m : Nat) (s : State) : State :=
  let s1 := s.putSlot m none
  if lapseHalts s1 then s1.post (.halt s1.flyer HaltReason.lapse.code) else s1

/-- The lapse timer of a station expires (06 R123). -/
def lapseStation (n : Fin 48) (s : State) : State :=
  if (s.roster.entry n.val).lapse.isSome then
    let s1 := s.withRoster (Roster.put s.roster n RosterEntry.absent)
    if s.isMember n.val ∧ n.val ≠ s.strap then memberLapses n.val s1 else s1
  else s

/-- LAPSE (06 R123). -/
def execLapse (n : Fin 48) (s : State) : Host.Outcome State Fault Refusal := .next (event (lapseStation n) s)

end Sys2Proof.Machine
end

