-- ==== Sys2Proof/Machine/RegisterPosts.lean ====
section
/-! DEFINITION. CLAIM and RELEASE (01 R7 to R15), the posts of the sync protocol (02 R30 to R39) and its timers (02 R29, R39), RESYNC (02 R40) and RE_CLAIM (03 R74). -/

namespace Sys2Proof.Machine

/-- CLAIM (01 R8). -/
def execClaim (sender : Fin 48) (k : Key) (b : Box) (s : State) : Host.Outcome State Fault Refusal :=
  .next (deliver sender (some (.claim k b)) (takeChange (.claim sender.val k b)) s)

/-- RELEASE (01 R14). -/
def execRelease (sender : Fin 48) (k : Key) (s : State) : Host.Outcome State Fault Refusal :=
  .next (deliver sender (some (.release k)) (takeChange (.release sender.val k)) s)

/-! ### SYNC -/

/-- The station's own SYNC is delivered: the attempt timer starts (02 R30). -/
def syncSent (s : State) : State :=
  if s.sync.phase = .posting then
    s.withSync { s.sync with phase := .awaiting, attemptTimer := some Config.attemptMs }
  else s

/-- A SYNC naming the station as responder is taken (02 R31). -/
def syncTaken (requester : Nat) (s : State) : Bool :=
  s.reg.state == .current && s.line.state != .lineOff && requester != s.strap && decide (requester ≤ 31)
    && !s.sync.waitList.contains requester && decide (s.sync.waitList.length < Config.maxWaiting)

/-- The requester enters the wait list, and is served at once if it was empty (02 R31). -/
def enterWaiting (requester : Nat) (s : State) : State :=
  let s1 := s.withSync { s.sync with waitList := s.sync.waitList ++ [requester] }
  if s.sync.waitList.isEmpty then serveNext s1 else s1

def takeSync (sender : Nat) (requester responder : Nat) (s : State) : State :=
  let s1 := if sender = s.strap ∧ requester = s.strap then syncSent s else s
  if responder = s.strap ∧ syncTaken requester s1 = true then enterWaiting requester s1 else s1

/-- SYNC (02 R31). -/
def execSync (sender : Fin 48) (requester responder : Nat) (s : State) : Host.Outcome State Fault Refusal :=
  .next (deliver sender (some (.sync requester responder)) (takeSync sender.val requester responder) s)

/-! ### The answer's posts at the responder -/

/-- The answer's next post after its entries up to index `i`: an entry, or the end with the count (02 R33). -/
def answerPost (q i : Nat) (snap : Snapshot) : Post :=
  match snap.entries[i]? with
  | some e => .tableEntry q i e.key e.box
  | none => .tableEnd q snap.entries.length

/-- At the delivery of an own answer post the next one is enqueued (02 R33). -/
def answerNext (q i : Nat) (s : State) : State :=
  match s.sync.answer with
  | some ⟨some snap⟩ => if s.sync.waitList.head? = some q then s.post (answerPost q i snap) else s
  | _ => s

/-- At the delivery of the own TABLE-END the answer is complete (02 R33). -/
def answerDone (q : Nat) (s : State) : State :=
  if s.sync.answer.isSome ∧ s.sync.waitList.head? = some q then endAnswer s else s

/-! ### The requester -/

/-- The post names the station as requester and comes from the attempt's responder (02 R35, R36, R38). -/
def fromResponder (sender requester : Nat) (s : State) : Bool :=
  requester == s.strap && s.sync.responder == some sender

/-- A TABLE-START accepted (02 R35). -/
def acceptTableStart (g : Word) (count : Nat) (s : State) : State :=
  (s.withReg { s.reg with table := [], generation := g }).withSync
    { s.sync with phase := .copying, expected := count, received := 0, changes := [] }

def takeTableStart (sender requester : Nat) (g : Word) (count : Nat) (s : State) : State :=
  let s1 := if sender = s.strap then answerNext requester 0 s else s
  if fromResponder sender requester s1 && s1.sync.phase == .awaiting && decide (count ≤ Config.maxEntries) then
    acceptTableStart g count s1
  else s1

/-- TABLE_START (02 R35, 08 R157). -/
def execTableStart (sender : Fin 48) (requester : Nat) (g : Word) (count : Nat) (s : State) :
    Host.Outcome State Fault Refusal :=
  .next (deliver sender (some (.tableStart requester g count)) (takeTableStart sender.val requester g count) s)

/-- A TABLE-ENTRY in order and well formed (02 R36, 08 R157). -/
def entryInOrder (index : Nat) (k : Key) (b : Box) (u : SyncUnit) : Bool :=
  index == u.received && decide (u.received < u.expected) && Key.wf k && Box.wf b

/-- A copied entry joins the table without the claim tests (02 R36). -/
def copyEntry (k : Key) (b : Box) (s : State) : State :=
  (s.withReg { s.reg with table := s.reg.table ++ [⟨k, b⟩] }).withSync
    { s.sync with received := s.sync.received + 1 }

def takeTableEntry (sender requester index : Nat) (k : Key) (b : Box) (s : State) : State :=
  let s1 := if sender = s.strap then answerNext requester (index + 1) s else s
  if fromResponder sender requester s1 && s1.sync.phase == .copying then
    if entryInOrder index k b s1.sync then copyEntry k b s1 else failAttempt s1
  else s1

/-- TABLE_ENTRY (02 R36). -/
def execTableEntry (sender : Fin 48) (requester index : Nat) (k : Key) (b : Box) (s : State) :
    Host.Outcome State Fault Refusal :=
  .next (deliver sender (some (.tableEntry requester index k b))
    (takeTableEntry sender.val requester index k b) s)

/-- The pending changes applied in list order (02 R38). -/
def applyChanges (cs : List Change) (s : State) : State := cs.foldl (fun s c => evaluateChange c s) s

/-- The end of a copy: success or failure by the counts (02 R38). -/
def endCopy (count : Nat) (s : State) : State :=
  if count = s.sync.expected ∧ count = s.sync.received then
    becomeCurrent (applyChanges s.sync.changes (s.withSync { s.sync with attemptTimer := none }))
  else failAttempt s

def takeTableEnd (sender requester count : Nat) (s : State) : State :=
  let s1 := if sender = s.strap then answerDone requester s else s
  if fromResponder sender requester s1 && s1.sync.phase == .copying then endCopy count s1 else s1

/-- TABLE_END (02 R38). -/
def execTableEnd (sender : Fin 48) (requester count : Nat) (s : State) : Host.Outcome State Fault Refusal :=
  .next (deliver sender (some (.tableEnd requester count)) (takeTableEnd sender.val requester count) s)

/-! ### Timers of the sync protocol -/

/-- The alone window expires (02 R29). -/
def aloneEnds (s : State) : State :=
  if s.sync.alone = .running then
    let s1 := s.withSync { s.sync with alone := .expired }
    if s1.line.state = .on ∧ s1.reg.state = .syncing then
      if s1.sync.winchSeen then choice s1 else startRigAlone s1
    else s1
  else s

/-- ALONE_WINDOW_EXPIRY (02 R29). -/
def execAloneWindowExpiry (s : State) : Host.Outcome State Fault Refusal := .next (event aloneEnds s)

/-- The attempt timer expires (02 R39). -/
def attemptEnds (s : State) : State := if s.sync.attemptTimer.isSome then failAttempt s else s

/-- ATTEMPT_TIMER_EXPIRY (02 R39). -/
def execAttemptTimerExpiry (s : State) : Host.Outcome State Fault Refusal := .next (event attemptEnds s)

/-- The retry timer expires and a new round begins with the choice (02 R39). -/
def retryEnds (s : State) : State :=
  if s.sync.retryTimer.isSome then
    choice (s.withSync { s.sync with phase := .idle, responder := none, failed := 0, retryTimer := none })
  else s

/-- RETRY_TIMER_EXPIRY (02 R39). -/
def execRetryTimerExpiry (s : State) : Host.Outcome State Fault Refusal := .next (event retryEnds s)

/-! ### RESYNC and RE_CLAIM -/

/-- The conditions of a resync (02 R40). -/
def resyncDue (s : State) : Bool :=
  s.reg.state == .stale && AxisState.atRest s.axis.state && s.line.state == .on

/-- A resync begins: SYNCING, phase IDLE, failed count 0, then the choice (02 R40). -/
def beginResync (s : State) : State :=
  if resyncDue s then choice (setRegister .syncing (s.withSync (SyncUnit.endRound s.sync))) else s

/-- RESYNC (02 R40). -/
def execResync (s : State) : Host.Outcome State Fault Refusal := .next (event beginResync s)

/-- The set lead that has come to owe a re-claim enqueues CLAIM with its held key and held box (03 R74). -/
def postReclaim (s : State) : State :=
  match s.cue.held with
  | some h =>
    if owesReclaim s && s.cue.reclaim == .due then
      (s.withCue { s.cue with reclaim := .posted }).post (.claim h.key h.box)
    else s
  | none => s

/-- RE_CLAIM (03 R74). -/
def execReClaim (s : State) : Host.Outcome State Fault Refusal := .next (event postReclaim s)

end Sys2Proof.Machine
end

