-- ==== Sys2Proof/Machine/Sample.lean ====
section
/-! DEFINITION. The sample of the axis loop (05 R97 to R117, 04 R79), the step end (04 R82) and the brake confirmation expiry (05 R105). -/

namespace Sys2Proof.Machine

/-- Stage 1: the winch inputs are read, and the brake confirmation timer counts one sample (05 R97, R105). -/
def readInputs (i : WinchInputs) (x : Axis) : Axis :=
  { x with inputs := i, brakeTimer := x.brakeTimer.map (· - 1) }

/-- The completion, if the engine's work has brought the run to it (04 R90). -/
def testCompletion (s : State) : State := if Engine.completes s.engine then completeRun s else s

/-- Stage 2: the profile engine's work (04 R79). -/
def engineStage (s : State) : State :=
  testCompletion (s.withEngine (Engine.sample s.store.working.words s.conf.accelLimit s.engine))

/-- The STOPPING ramp, and the brake wait once the brake is set (05 R103, R104). -/
def stoppingStage (s : State) : State :=
  let x := s.axis
  if x.brake = .released then
    let d := slew x.demand 0 s.conf.stopDecel
    let y := { x with demand := d, ramp := x.ramp.map (· + d) }
    s.withAxis (if d = 0 then Axis.command y .set else y)
  else if x.inputs.feedback = .set then
    (s.withAxis { x with demand := 0, ramp := none }).enterAxis (s.restByHaul .holding)
  else s.withAxis { x with demand := 0 }

/-- The jog decision: brake command and demand (05 R117). -/
def jogDecision (band : Nat) (i : WinchInputs) : Brake × Int :=
  if i.jogUp && !i.jogDown && decide (i.haul < (band : Int)) && !i.upper then (.released, Config.jogDemand)
  else if i.jogDown && !i.jogUp && decide (0 < i.haul) && !i.lower then (.released, -Config.jogDemand)
  else (.set, 0)

/-- Stage 3 in LOCKED (05 R117). -/
def jogStage (s : State) : State :=
  let d := jogDecision s.conf.groundBand s.axis.inputs
  s.withAxis { Axis.command s.axis d.1 with demand := d.2 }

/-- Stage 3: the work of the axis state (05 R98). -/
def stateStage (s : State) : State :=
  match s.axis.state with
  | .flying => s.withAxis { s.axis with demand := s.engine.demand }
  | .stopping => stoppingStage s
  | .locked => jogStage s
  | .unconfigured | .parked | .poised | .holding | .recovery | .armed | .faulted =>
    s.withAxis { s.axis with demand := 0 }

/-- The axis is in FLYING or STOPPING, where a moving line is watched (05 R109, R110). -/
def AxisState.moving : AxisState → Bool
  | .flying | .stopping => true
  | _ => false

/-- The planned haul the following error is taken from (05 R109). -/
def followPlanned (s : State) : Int :=
  if s.axis.state = .flying then s.engine.planned else s.axis.ramp.getD 0

/-- The following error in millionths of mm exceeds the limit (05 R109). -/
def followTest (s : State) : Bool :=
  decide ((s.conf.followLimit : Int) * 1000000 < |followPlanned s - s.axis.inputs.haul * 1000000|)

/-- A limit input newly active, or the haul above the max haul (05 R110). -/
def limitTest (s : State) : Bool :=
  let i := s.axis.inputs
  let prev := s.axis.limits.getD (i.upper, i.lower)
  (i.upper && !prev.1) || (i.lower && !prev.2) || decide ((s.conf.maxHaul : Int) < i.haul)

/-- The brake feedback disagrees with the command once the confirmation timer has expired (05 R105). -/
def brakeTest (x : Axis) : Bool := x.brakeTimer == some 0 && x.inputs.feedback != x.brake

/-- The fault tests of a sample (05 R106). -/
def sampleFaults (s : State) : FaultSet :=
  let i := s.axis.inputs
  let m := AxisState.moving s.axis.state
  { estop := i.estop, drive := i.driveFault
    overload := decide ((s.conf.overloadThreshold : Int) < i.load)
    brake := brakeTest s.axis
    follow := m && followTest s
    slack := m && decide (i.load < (s.conf.slackThreshold : Int))
    limit := m && limitTest s
    deaf := false }

/-- The limit inputs are kept for the next sample (05 R110). -/
def keepLimits (i : WinchInputs) (s : State) : State :=
  s.withAxis { s.axis with limits := some (i.upper, i.lower) }

/-- One sample, in its five stages (05 R98); in UNCONFIGURED no sample work is done. -/
def sample (i : WinchInputs) (s : State) : State :=
  if s.axis.state = .unconfigured then s
  else
    let s3 := stateStage (engineStage (s.withAxis (readInputs i s.axis)))
    keepLimits i (detect (sampleFaults s3) s3)

/-- AXIS_SAMPLE (05 R98). The outputs follow the axis's demand and brake command at the close of the sample. -/
def execAxisSample (i : WinchInputs) (s : State) : Host.Outcome State Fault Refusal := .next (event (sample i) s)

/-- The step timer reaches 0: the current step ends, and with it the run if that was the last step and the demand is 0 (04 R82, R89). -/
def endStep (s : State) : State :=
  match s.engine.state with
  | .playing =>
    testCompletion (s.withEngine (Engine.stepEnd s.store.working.words { s.engine with stepTimer := 0 }))
  | .idle | .settling => s

/-- STEP_END (04 R82): AXIS_SAMPLE makes it inside the sample that counts the timer to 0; standing alone it ends the step being played (log entry 4). -/
def execStepEnd (s : State) : Host.Outcome State Fault Refusal := .next (event endStep s)

/-- The brake confirmation timer expires: the feedback of the most recent sample is compared with the command (05 R105). -/
def confirmBrake (s : State) : State :=
  match s.axis.brakeTimer with
  | some (_ + 1) =>
    let s1 := s.withAxis { s.axis with brakeTimer := some 0 }
    detect { noFaults with brake := brakeTest s1.axis } s1
  | some 0 | none => s

/-- BRAKE_CONFIRMATION_EXPIRY (05 R105; log entry 4). -/
def execBrakeConfirmationExpiry (s : State) : Host.Outcome State Fault Refusal := .next (event confirmBrake s)

/-! ### The outputs -/

/-- The drive demand output, in thousandths of mm/s (05 R97, 11 R185). -/
def driveDemandOutput (s : State) : Int := s.axis.demand

/-- The brake output: active while the brake command is RELEASED (05 R97). -/
def brakeOutput (s : State) : Bool := s.axis.brake == .released

end Sys2Proof.Machine
end

