-- ==== Sys2Proof/Machine/Startup.lean ====
section
/-! DEFINITION. The start sequence and the restart line (11 R185 to R190), with the start values of every block (01 R25, 02 R44, 03 R75, 04 R95, 05 R119, 06 R133, 07 R151, 09 R177, 10 R184). -/

namespace Sys2Proof.Machine

/-- The words a memory operation in flight was writing (09 R167). -/
def MemOp.addresses : Option MemOp → List Nat
  | some (.aloftWrite _) => [65, 66, 67, 68, 69]
  | some (.lockWrite _) => [70, 71]
  | some (.flagWrite _) => [64]
  | some (.commit cells) => cells.map (·.1)
  | some (.copySlice _) | some (.verifySlice _ _) | none => []

/-- A write cut short leaves the words it addresses as the memory leaves them: free values (09 R167; log entry 7). -/
def tornMemory (st : Store) (free : Nat) : Memory :=
  Memory.writeAll st.mem ((MemOp.addresses st.inFlight).map (fun a => (a, Config.tornWord free a)))

/-- Power loss or the restart line: the part is held at rest, the operation in flight cut short, and nothing but the program memory survives (11 R185, 07 R135, 09 R167). -/
def hold (s : State) : State :=
  State.held (tornMemory s.store s.freeCount) (s.freeCount + 1) s.pending

/-- The join step of a listen-only station (11 R188): STALE register, UNCONFIGURED axis, LISTEN-ONLY line, nothing else read. -/
def joinListenOnly (s : State) : State :=
  { s with
    reg := { AirRegister.start with state := .stale }
    line := { Line.start with state := .listenOnly } }

/-- The store after steps 1 to 4 (09 R166, R177; 11 R189). -/
def loadStore (c : StationConfig) (pin : Bool) (mem : Memory) : Store :=
  let flag := Memory.read mem 64
  let bank := if pin then Bank.a else bankOfFlag flag
  let words := readBank mem bank
  { Store.start mem with
    pinForced := pin, active := some bank
    working := ⟨words, (validateBank c.maxHaul c.speedLimit words).valid⟩
    aloft := ⟨readAloft mem, readAloft mem⟩
    lockRec := ⟨readLock mem, readLock mem⟩
    flag := ⟨flag, flag⟩ }

/-- The starting axis state (11 R190, 05 R119). -/
def startingAxis (c : StationConfig) (locked : Bool) (haul : Int) : AxisState :=
  if locked then .locked else if (c.groundBand : Int) < haul then .recovery else .parked

/-- The aloft target at the join step: clear where PARKED is chosen or both records read set (11 R190, 10 R184). -/
def startingAloft (ax : AxisState) (r : Record AloftRecord) : Record AloftRecord :=
  if ax = .parked ∨ ax = .locked then ⟨r.stored, .clear⟩ else r

/-- The join step of a configured station (11 R190). -/
def joinConfigured (c : StationConfig) (pin : Bool) (inputs : WinchInputs) (s : State) : State :=
  let st := loadStore c pin s.store.mem
  let ax := startingAxis c st.lockRec.stored.isSome inputs.haul
  { s with
    cfg := some c
    reg := { AirRegister.start with zones := c.zones }
    cue := { CueUnit.start with
      held := heldOfAloft c.flyer st.aloft.stored
      slots := c.members.map (fun _ => none) }
    engine := { Engine.start with planned := inputs.haul * 1000000 }
    axis := { Axis.start with state := ax, inputs := inputs, brakeTimer := some Config.brakeSamples }
    line := { Line.start with watch := .awaitIdle, silence := some Config.silenceMs }
    store := { st with aloft := startingAloft ax st.aloft }
    lock := ⟨st.lockRec.stored⟩ }

/-- The start sequence from a held part: straps and pin, configuration, records and bank, join (11 R185). -/
def startHeld (strap : Nat) (pin : Bool) (inputs : WinchInputs) (s : State) : State :=
  let s1 := { State.held s.store.mem s.freeCount s.pending with power := .running, strap := strap }
  let s2 := s1.withStore { s1.store with pinForced := pin }
  match readConfig s.store.mem strap with
  | none => joinListenOnly s2
  | some c => finish (joinConfigured c pin inputs s2)

/-- START_SEQUENCE (11 R185): at power-on or release of the restart line. Given to a running part it is a loss of power and its return (log entry 22). -/
def execStartSequence (strap : Fin 32) (pin : Bool) (inputs : WinchInputs) (s : State) :
    Host.Outcome State Fault Refusal :=
  match s.power with
  | .held => .next (startHeld strap.val pin inputs s)
  | .running => .next (startHeld strap.val pin inputs (hold s))

/-- RESTART_ASSERT (11 R185). A part already held has no operation to cut short. -/
def execRestartAssert (s : State) : Host.Outcome State Fault Refusal := .next (hold s)

end Sys2Proof.Machine
end

