-- ==== Sys2Proof/Machine/StoreEvents.lean ====
section
/-! DEFINITION. The program store's events: LOAD (09 R168 to R170, R172), VERIFY (R171), SWAP and its begin (R173 to R175), and the completions of memory operations (R167, R170, R171, R175, R176). -/

namespace Sys2Proof.Machine

/-- The kind numbers a store's BUSY carries (08 R162). -/
def swapKind : Nat := 18
def verifyKind : Nat := 19
def loadKind : Nat := 21

/-- The bank that is not active (09 R166). -/
def Store.shadow (st : Store) : Bank := (st.active.getD .a).other

/-- The store is SWAPPING (09 R174). -/
def Store.swapping (st : Store) : Bool := st.copy.isSome

/-! ### Commits -/

/-- A commit of the buffer's words is requested, unless the buffer is empty or a commit is in flight (09 R168, R170, R171). -/
def Store.requestCommit (st : Store) : Store :=
  if st.buffer.isEmpty || st.commit.isSome then st
  else Store.request { st with commit := some st.buffer, buffer := [] } .commit

/-! ### Verifies -/

/-- VERIFIED is posted, and its show becomes the last verified show (09 R171). -/
def postVerified (showNo : Nat) (r : VerifyResult) (s : State) : State :=
  (s.withStore { s.store with lastVerified := showNo }).post (.verified showNo r.code r.segmentByte)

/-- A waiting verify slice request. -/
def MemRequest.isVerify : MemRequest → Bool
  | .verifySlice _ => true
  | _ => false

/-- A verify slice in flight is withdrawn: its result will be discarded (09 R167, R172). -/
def MemOp.discard : MemOp → MemOp
  | .verifySlice i _ => .verifySlice i true
  | op => op

/-- A running verify is abandoned by a taken LOAD (09 R172). -/
def abandonVerify (s : State) : State :=
  match s.store.verify with
  | none => s
  | some ws =>
    postVerified (bankShow ws) .abandoned (s.withStore { s.store with
      verify := none
      waiting := s.store.waiting.filter (fun r => !r.isVerify)
      inFlight := s.store.inFlight.map MemOp.discard })

/-- A VERIFY begins (09 R171). -/
def Store.beginVerify (st : Store) : Store :=
  Store.request { Store.requestCommit st with verified := false, verify := some [] } (.verifySlice 0)

/-- A VERIFY naming the station delivered (09 R171). -/
def takeVerify (sender target : Nat) (s : State) : State :=
  if target = s.strap then
    if s.store.swapping || s.store.verify.isSome then s.notice .busy sender none verifyKind
    else s.withStore s.store.beginVerify
  else s

/-- VERIFY (09 R171). -/
def execVerify (sender : Fin 48) (target : Nat) (s : State) : Host.Outcome State Fault Refusal :=
  .next (deliver sender (some (.verify target)) (takeVerify sender.val target) s)

/-! ### LOAD -/

/-- A LOAD naming the station: refused, or taken with its operation (09 R168). -/
def takeLoad (sender target : Nat) (op : State → State) (s : State) : State :=
  if target = s.strap then
    if s.store.swapping || s.store.commit.isSome then s.notice .busy sender none loadKind
    else op (abandonVerify s)
  else s

/-- AIM: the buffer is committed and the cursor set (09 R168). -/
def aimCursor (a : Area) (index : Nat) (s : State) : State :=
  s.withStore { Store.requestCommit s.store with area := a, index := index }

/-- LOAD_AIM (09 R168); an area without a meaning makes it ill-coded (08 R161). -/
def execLoadAim (sender : Fin 48) (target area index : Nat) (s : State) : Host.Outcome State Fault Refusal :=
  .next (deliver sender (some (.loadAim target area index))
    (match areaOfCode area with
    | some a => takeLoad sender.val target (aimCursor a index)
    | none => id) s)

/-- One word of a DATA at the cursor; the number counts the words refused (09 R169). -/
def placeWord (a : Store × Nat) (w : Word) : Store × Nat :=
  let st := a.1
  if st.index < st.area.size then
    let st1 := { st with
      buffer := st.buffer ++ [(st.shadow.base + st.area.offset + st.index, w)]
      index := st.index + 1 }
    (if st1.buffer.length = Config.maxBuffer then st1.requestCommit else st1, a.2)
  else (st, a.2 + 1)

/-- A taken DATA (09 R169). -/
def placeData (sender : Nat) (words : List Word) (s : State) : State :=
  let r := words.foldl placeWord ({ s.store with verified := false }, 0)
  let s1 := s.withStore r.1
  if r.2 = 0 then s1 else s1.notice .overrun sender none r.2

/-- A DATA carries one to six words (08 R161). -/
def dataFits (words : List Word) : Bool := decide (1 ≤ words.length) && decide (words.length ≤ 6)

/-- LOAD_DATA (09 R169). -/
def execLoadData (sender : Fin 48) (target : Nat) (words : List Word) (s : State) :
    Host.Outcome State Fault Refusal :=
  .next (deliver sender (some (.loadData target words))
    (if dataFits words then takeLoad sender.val target (placeData sender.val words) else id) s)

/-- COMMIT: the buffer is committed (09 R168). -/
def commitBuffer (s : State) : State := s.withStore s.store.requestCommit

/-- LOAD_COMMIT (09 R168). -/
def execLoadCommit (sender : Fin 48) (target : Nat) (s : State) : Host.Outcome State Fault Refusal :=
  .next (deliver sender (some (.loadCommit target)) (takeLoad sender.val target commitBuffer) s)

/-! ### SWAP -/

/-- A SWAP naming the station or ALL delivered (09 R173). -/
def takeSwap (sender target : Nat) (s : State) : State :=
  if scopeHits target s.strap then
    if s.store.pinForced then s.notice .forced sender none (bankShow s.store.working.words)
    else if s.store.swapPending.isSome || s.store.swapping then s.notice .busy sender none swapKind
    else if !s.store.verified then s.notice .unverified sender none s.store.lastVerified
    else s.withStore { s.store with swapPending := some sender }
  else s

/-- SWAP (09 R173). -/
def execSwap (sender : Fin 48) (target : Nat) (s : State) : Host.Outcome State Fault Refusal :=
  .next (deliver sender (some (.swap target)) (takeSwap sender.val target) s)

/-- The conditions of a swap's begin but for the pending swap (09 R174). -/
def swapReady (s : State) : Bool :=
  AxisState.atRest s.axis.state && s.cue.queue.isEmpty && s.store.verify.isNone && !s.store.swapping

/-- The store enters SWAPPING (09 R174). -/
def Store.enterSwapping (st : Store) : Store :=
  { st with copy := some [], flag := ⟨st.flag.stored, flagOfBank st.shadow⟩ }

/-- A pending swap begins, or is abandoned (09 R174). -/
def beginSwap (s : State) : State :=
  match s.store.swapPending with
  | some sender =>
    if swapReady s then
      if s.store.verified then s.withStore s.store.enterSwapping
      else (s.withStore { s.store with swapPending := none }).notice .unverified sender none s.store.lastVerified
    else s
  | none => s

/-- SWAP_BEGIN (09 R174; log entry 1). -/
def execSwapBegin (s : State) : Host.Outcome State Fault Refusal := .next (event beginSwap s)

/-! ### Completions -/

/-- The aloft record's write has finished; a clear one's unstated contents are free values (09 R176; log entry 8). -/
def aloftWritten (v : AloftRecord) (s : State) : State :=
  (s.withStore { s.store with
    inFlight := none
    mem := Memory.writeAll s.store.mem (aloftCells s.flyer s.freeCount v)
    aloft := ⟨v, s.store.aloft.target⟩ }).withFreeCount (if v = .clear then s.freeCount + 1 else s.freeCount)

/-- The lock record's write has finished (09 R176; log entry 8). -/
def lockWritten (v : Option Word) (s : State) : State :=
  (s.withStore { s.store with
    inFlight := none
    mem := Memory.writeAll s.store.mem (lockCells s.freeCount v)
    lockRec := ⟨v, s.store.lockRec.target⟩ }).withFreeCount (if v = none then s.freeCount + 1 else s.freeCount)

/-- The aloft or lock record write in flight completes (09 R176). -/
def recordWritten (s : State) : State :=
  match s.store.inFlight with
  | some (.aloftWrite v) => aloftWritten v s
  | some (.lockWrite v) => lockWritten v s
  | _ => s

/-- RECORD_WRITE_COMPLETION (09 R176). -/
def execRecordWriteCompletion (s : State) : Host.Outcome State Fault Refusal := .next (event recordWritten s)

/-- The swap flag's write has finished: its bank is active, and the copy's first slice is requested (09 R175). -/
def Store.flagWritten (st : Store) (v : Word) : Store :=
  Store.request { st with
    inFlight := none, mem := Memory.write st.mem 64 v, flag := ⟨v, st.flag.target⟩
    active := some (bankOfFlag v) } (.copySlice 0)

/-- The swap flag write in flight completes (09 R175, R176). -/
def swapFlagWritten (s : State) : State :=
  match s.store.inFlight with
  | some (.flagWrite v) => s.withStore (s.store.flagWritten v)
  | _ => s

/-- SWAP_FLAG_WRITE_COMPLETION (09 R175). -/
def execSwapFlagWriteCompletion (s : State) : Host.Outcome State Fault Refusal := .next (event swapFlagWritten s)

/-- The last slice of the copy has been read: the swap ends (09 R175). -/
def Store.endSwap (st : Store) (c : StationConfig) (words : List Word) : Store :=
  { st with
    working := ⟨words, (validateBank c.maxHaul c.speedLimit words).valid⟩
    verified := st.working.valid, lastVerified := bankShow st.working.words
    swapPending := none, copy := none }

/-- The words of slice `i` join the copy (09 R167, R175; log entry 18). -/
def Store.copyRead (st : Store) (c : StationConfig) (i : Nat) : Store :=
  let st1 := { st with inFlight := none }
  match st.copy with
  | none => st1
  | some ws =>
    let ws1 := ws ++ readSlice st.mem (st.active.getD .a) i
    if i + 1 < Config.sliceCount then Store.request { st1 with copy := some ws1 } (.copySlice (i + 1))
    else st1.endSwap c ws1

/-- The bank copy slice in flight completes (09 R175). -/
def copySliceRead (s : State) : State :=
  match s.store.inFlight with
  | some (.copySlice i) => s.withStore (s.store.copyRead s.conf i)
  | _ => s

/-- BANK_COPY_SLICE_COMPLETION (09 R175). -/
def execBankCopySliceCompletion (s : State) : Host.Outcome State Fault Refusal := .next (event copySliceRead s)

/-- The commit's words are in the shadow; words a running verify left in the buffer are committed at once (09 R170). -/
def Store.commitWritten (st : Store) (cells : List MemCell) : Store :=
  let st1 := { st with inFlight := none, commit := none, mem := Memory.writeAll st.mem cells }
  if st1.verify.isSome then st1.requestCommit else st1

/-- The load commit in flight completes (09 R170). -/
def commitDone (s : State) : State :=
  match s.store.inFlight with
  | some (.commit cells) => s.withStore (s.store.commitWritten cells)
  | _ => s

/-- LOAD_COMMIT_COMPLETION (09 R170). -/
def execLoadCommitCompletion (s : State) : Host.Outcome State Fault Refusal := .next (event commitDone s)

/-- The last slice of the verify has been read: the result (09 R171). -/
def endVerify (ws : List Word) (s : State) : State :=
  let r := validateBank s.conf.maxHaul s.conf.speedLimit ws
  postVerified (bankShow ws) r (s.withStore { s.store with verify := none, verified := r.valid })

/-- The words of slice `i` join the verify (09 R171). -/
def verifyRead (i : Nat) (s : State) : State :=
  let s1 := s.withStore { s.store with inFlight := none }
  match s.store.verify with
  | none => s1
  | some ws =>
    let ws1 := ws ++ readSlice s.store.mem s.store.shadow i
    if i + 1 < Config.sliceCount then
      s1.withStore (Store.request { s1.store with verify := some ws1 } (.verifySlice (i + 1)))
    else endVerify ws1 s1

/-- The verify slice in flight completes; one withdrawn is discarded (09 R167, R171, R172). -/
def verifySliceDone (s : State) : State :=
  match s.store.inFlight with
  | some (.verifySlice i discarded) =>
    if discarded then s.withStore { s.store with inFlight := none } else verifyRead i s
  | _ => s

/-- VERIFY_SLICE_COMPLETION (09 R171). -/
def execVerifySliceCompletion (s : State) : Host.Outcome State Fault Refusal := .next (event verifySliceDone s)

end Sys2Proof.Machine
end

