-- ==== Sys2Proof/Machine/Dispatch.lean ====
section
/-! DEFINITION. The effect of each command: one arm per row of spec/opcode_table.json. -/

namespace Sys2Proof.Machine

def exec (i : Instr) (s : State) : Host.Outcome State Fault Refusal :=
  match i with
  | .startSequence strap bankPin inputs => Sys2Proof.Machine.execStartSequence strap bankPin inputs s
  | .restartAssert => Sys2Proof.Machine.execRestartAssert s
  | .axisSample inputs => Sys2Proof.Machine.execAxisSample inputs s
  | .stepEnd => Sys2Proof.Machine.execStepEnd s
  | .brakeConfirmationExpiry => Sys2Proof.Machine.execBrakeConfirmationExpiry s
  | .postBegin others => Sys2Proof.Machine.execPostBegin others s
  | .postSpoiled finding => Sys2Proof.Machine.execPostSpoiled finding s
  | .unfittingPost sender raw => Sys2Proof.Machine.execUnfittingPost sender raw s
  | .halt sender scope reason => Sys2Proof.Machine.execHalt sender scope reason s
  | .clearStop sender => Sys2Proof.Machine.execClearStop sender s
  | .claim sender key box => Sys2Proof.Machine.execClaim sender key box s
  | .release sender key => Sys2Proof.Machine.execRelease sender key s
  | .sync sender requester responder => Sys2Proof.Machine.execSync sender requester responder s
  | .tableStart sender requester generation count => Sys2Proof.Machine.execTableStart sender requester generation count s
  | .tableEntry sender requester index key box => Sys2Proof.Machine.execTableEntry sender requester index key box s
  | .tableEnd sender requester count => Sys2Proof.Machine.execTableEnd sender requester count s
  | .cue sender flyer showNo segment reps trigStation trigSegment delay => Sys2Proof.Machine.execCue sender flyer showNo segment reps trigStation trigSegment delay s
  | .drop sender flyer showNo segment => Sys2Proof.Machine.execDrop sender flyer showNo segment s
  | .ready sender flyer showNo segment members => Sys2Proof.Machine.execReady sender flyer showNo segment members s
  | .unready sender flyer showNo segment => Sys2Proof.Machine.execUnready sender flyer showNo segment s
  | .done sender flyer segment reps => Sys2Proof.Machine.execDone sender flyer segment reps s
  | .cut sender flyer segment remaining step reason => Sys2Proof.Machine.execCut sender flyer segment remaining step reason s
  | .presence sender p => Sys2Proof.Machine.execPresence sender p s
  | .notice sender n => Sys2Proof.Machine.execNotice sender n s
  | .ack sender target kinds => Sys2Proof.Machine.execAck sender target kinds s
  | .lock sender target flags code => Sys2Proof.Machine.execLock sender target flags code s
  | .unlock sender target flags code => Sys2Proof.Machine.execUnlock sender target flags code s
  | .master sender target flags code => Sys2Proof.Machine.execMaster sender target flags code s
  | .swap sender target => Sys2Proof.Machine.execSwap sender target s
  | .verify sender target => Sys2Proof.Machine.execVerify sender target s
  | .verified sender showNo result segment => Sys2Proof.Machine.execVerified sender showNo result segment s
  | .loadAim sender target area index => Sys2Proof.Machine.execLoadAim sender target area index s
  | .loadData sender target words => Sys2Proof.Machine.execLoadData sender target words s
  | .loadCommit sender target => Sys2Proof.Machine.execLoadCommit sender target s
  | .lapse station => Sys2Proof.Machine.execLapse station s
  | .presenceTimerExpiry => Sys2Proof.Machine.execPresenceTimerExpiry s
  | .lineOffTimerExpiry => Sys2Proof.Machine.execLineOffTimerExpiry s
  | .joinSilenceExpiry => Sys2Proof.Machine.execJoinSilenceExpiry s
  | .aloneWindowExpiry => Sys2Proof.Machine.execAloneWindowExpiry s
  | .attemptTimerExpiry => Sys2Proof.Machine.execAttemptTimerExpiry s
  | .retryTimerExpiry => Sys2Proof.Machine.execRetryTimerExpiry s
  | .readyWaitExpiry => Sys2Proof.Machine.execReadyWaitExpiry s
  | .spaceWaitExpiry => Sys2Proof.Machine.execSpaceWaitExpiry s
  | .chainDelayExpiry => Sys2Proof.Machine.execChainDelayExpiry s
  | .takeCue => Sys2Proof.Machine.execTakeCue s
  | .resync => Sys2Proof.Machine.execResync s
  | .reClaim => Sys2Proof.Machine.execReClaim s
  | .swapBegin => Sys2Proof.Machine.execSwapBegin s
  | .recordWriteCompletion => Sys2Proof.Machine.execRecordWriteCompletion s
  | .swapFlagWriteCompletion => Sys2Proof.Machine.execSwapFlagWriteCompletion s
  | .bankCopySliceCompletion => Sys2Proof.Machine.execBankCopySliceCompletion s
  | .loadCommitCompletion => Sys2Proof.Machine.execLoadCommitCompletion s
  | .verifySliceCompletion => Sys2Proof.Machine.execVerifySliceCompletion s
  | .lineIdleSeen => Sys2Proof.Machine.execLineIdleSeen s

end Sys2Proof.Machine
end

