-- ==== Sys2Proof/Safety.lean ====
section
/-! DEFINITION. What is said about states and steps: the steps that are due at once (log entry 1), what a command leaves unchanged, room for posts, and the laws every step keeps. -/

namespace Sys2Proof.Machine

/-! ### Steps that are due at once -/

/-- A triggered head's chain delay of 0 has started, and expires at once (03 R51). -/
def chainDue (s : State) : Bool := s.cue.chainDelay == some 0 && headEligible s

/-- An untriggered head is eligible (03 R50). -/
def takeDue (s : State) : Bool :=
  match s.cue.queue with
  | h :: _ => headEligible s && h.trigger.isNone
  | [] => false

/-- A pending swap's conditions hold (09 R174). -/
def swapDue (s : State) : Bool := s.store.swapPending.isSome && swapReady s

/-- A re-claim has come to be owed and its CLAIM is not yet enqueued (03 R74). -/
def reclaimDue (s : State) : Bool := s.cue.held.isSome && owesReclaim s && s.cue.reclaim == .due

/-- One of the steps the spec makes "at once" where its conditions hold, if one is due; among several any order may occur (log entry 1). -/
def dueStep (s : State) : Option Instr :=
  if s.power = .held then none
  else if resyncDue s then some .resync
  else if takeDue s then some .takeCue
  else if chainDue s then some .chainDelayExpiry
  else if swapDue s then some .swapBegin
  else if reclaimDue s then some .reClaim
  else none

/-- A step that lets no due step wait: a due step goes before the queue's front (log entry 1). -/
def promptStep (s : State) : Host.Outcome State Fault Refusal :=
  match dueStep s with
  | some c => exec c s
  | none => step s

/-! ### What a command leaves unchanged -/

/-- The blocks of a station, the counter of free values, and program memory, which no frame gives up with the program store around it. -/
inductive Block where
  | reg | sync | cue | engine | axis | roster | line | store | lock | free | memory
  deriving DecidableEq, Repr

/-- The cue unit is unchanged but for the chain delay and the re-claim mark, which every event may set by the conditions as they stand (03 R50, R51, R74). -/
def CueUnit.sameBut (a b : CueUnit) : Prop := { b with chainDelay := a.chainDelay, reclaim := a.reclaim } = a

/-- The program store is unchanged but for the requests its record logic enters and the grant of the port (09 R167, R176). -/
def Store.sameBut (a b : Store) : Prop := { b with waiting := a.waiting, inFlight := a.inFlight } = a

/-- A block is unchanged between two states, in the sense above. -/
def unchanged (s t : State) : Block → Prop
  | .reg => t.reg = s.reg
  | .sync => t.sync = s.sync
  | .cue => CueUnit.sameBut s.cue t.cue
  | .engine => t.engine = s.engine
  | .axis => t.axis = s.axis
  | .roster => t.roster = s.roster
  | .line => t.line = s.line
  | .store => Store.sameBut s.store t.store
  | .lock => t.lock = s.lock
  | .free => t.freeCount = s.freeCount
  | .memory => t.store.mem = s.store.mem

/-- Power, strap number, configuration and waiting commands are unchanged, and so is every block not in `bs`. -/
def FrameBut (bs : List Block) (s t : State) : Prop :=
  t.power = s.power ∧ t.strap = s.strap ∧ t.cfg = s.cfg ∧ t.pending = s.pending
    ∧ ∀ b : Block, b ∉ bs → unchanged s t b

/-! ### States at rest between events -/

/-- The queued posts' ages lie below the next age to be given (07 R147). -/
abbrev AgesBelow (l : Line) : Prop := ∀ o ∈ l.queue, o.age < l.nextAge

/-- A running part whose line interface has no discard report waiting (they are acted on within their event), owes no post, and has room for the four posts an event may enqueue. -/
abbrev Calm (s : State) : Prop :=
  s.power = .running ∧ s.line.reports = [] ∧ s.cue.owed = [] ∧ s.line.queue.length + 4 ≤ 8 ∧ AgesBelow s.line

/-- A calm part that takes deliveries: its line interface is ON or in LINE-OFF (07 R134). -/
abbrev Receives (s : State) : Prop := Calm s ∧ (s.line.state = .on ∨ s.line.state = .lineOff)

/-- A calm part whose line interface is ON. -/
abbrev CalmOn (s : State) : Prop := Calm s ∧ s.line.state = .on

/-- The posts that stand in the outgoing queue of `t` and were enqueued since `s`, in order. -/
def newPosts (s t : State) : List Post :=
  (t.line.queue.filter (fun o => decide (s.line.nextAge ≤ o.age))).map (·.post)

/-- The posts an event enqueues are `ps` with the line interface ON, and none in LINE-OFF, where every post is discarded (07 R143, R148). -/
def posted (s t : State) (ps : List Post) : Prop :=
  (s.line.state = .on → newPosts s t = ps) ∧ (s.line.state = .lineOff → newPosts s t = [])

/-- The post `p` is among those an event enqueues with the line interface ON; in LINE-OFF it enqueues none (07 R143, R148). -/
def alsoPosted (s t : State) (p : Post) : Prop :=
  (s.line.state = .on → p ∈ newPosts s t) ∧ (s.line.state = .lineOff → newPosts s t = [])

/-! ### Laws -/

/-- Program memory keeps its canonical form (log entry 6). -/
abbrev MemoryCanonical (s : State) : Prop := Memory.wf s.store.mem = true

/-- The bounds of the outgoing queue, its posts standing in the order of their ages (07 R147), the cue queue (03 R45), the wait list (02 R31) and the pending change list (02 R37). -/
abbrev QueuesBounded (s : State) : Prop :=
  s.line.queue.length ≤ 8 ∧ AgesBelow s.line ∧ (s.line.queue.map (·.age)).Pairwise (· < ·)
    ∧ s.cue.queue.length ≤ 8 ∧ s.sync.waitList.length ≤ 4 ∧ s.sync.changes.length ≤ 8

/-- No two entries of different flyers overlap (01 R6). -/
abbrev Separated (table : List Entry) : Prop :=
  ∀ e ∈ table, ∀ f ∈ table, e.key.flyer ≠ f.key.flyer → Box.overlaps e.box f.box = false

/-- The claim table holds at most 24 entries (01 R4); while COPYING it holds the entries received, and at most 24 are expected (02 R35, R36). -/
abbrev TableBounded (s : State) : Prop :=
  s.reg.table.length ≤ 24
    ∧ (s.sync.phase = .copying → s.reg.table.length = s.sync.received ∧ s.sync.expected ≤ 24)

/-- One slot for each configured member (03 R55). -/
abbrev SlotsFit (s : State) : Prop := s.cue.slots.length = s.members.length

/-- The current cue has the given phase. -/
def currentIs (p : CuePhase) (s : State) : Prop := ∃ c, s.cue.current = some c ∧ c.phase = p

/-- The brake is set and the demand 0 (05 R105, 04 R96). -/
abbrev braked (s : State) : Prop := s.axis.brake = .set ∧ s.axis.demand = 0

/-- The laws that tie the axis state to the current cue (03 R46), the fault latch set (05 R106), the brake (05 R105), the lock copy (10 R178 to R183) and the show-stop latch (03 R68), with the origin an at-rest state (03 R53) and the profile engine at work in FLYING alone (04 R78, R90, R92). -/
structure AxisLaws (s : State) : Prop where
  armed : s.axis.state = .armed ↔ currentIs .armed s
  flying : s.axis.state = .flying ↔ currentIs .running s
  engine : s.axis.state = .flying ↔ s.engine.state ≠ .idle
  origin : ∀ o, s.axis.origin = some o → AxisState.atRest o = true
  faulted : s.axis.state = .faulted ↔ FaultSet.isEmpty s.axis.faults = false
  brake : s.axis.state ≠ .flying → s.axis.state ≠ .stopping → s.axis.state ≠ .locked → braked s
  lockKept : s.lock.copy.isSome = true → s.axis.state = .locked ∨ s.axis.state = .faulted
  locked : s.axis.state = .locked → s.lock.copy.isSome = true
  showStop : s.cue.showStop = true →
    s.axis.state ≠ .armed ∧ s.axis.state ≠ .flying ∧ s.cue.queue = []

/-- The law of the register and the run, and what keeps it: FLYING only while the table holds an entry with the run key, a current cue only while the register is CURRENT or STALE (01 R22, 05 R100), and a sync attempt, its rest and their timers only while it is SYNCING (02 R26, R30, R39, R40). -/
structure RegisterLaws (s : State) : Prop where
  register : s.axis.state = .armed ∨ s.axis.state = .flying → s.reg.state = .current ∨ s.reg.state = .stale
  runKey : s.axis.state = .flying → ∃ c, s.cue.current = some c ∧ hasKey s.reg.table c.runKey = true
  syncing : s.sync.phase ≠ .idle → s.reg.state = .syncing
  attempt : s.sync.attemptTimer.isSome = true → s.sync.phase = .awaiting ∨ s.sync.phase = .copying
  resting : s.sync.retryTimer.isSome = true → s.sync.phase = .resting

/-! #### Records and the memory port -/

def MemRequest.isCopySlice : MemRequest → Bool
  | .copySlice _ => true
  | _ => false

def MemOp.isCopySlice : Option MemOp → Bool
  | some (.copySlice _) => true
  | _ => false

/-- What stands at the memory port (09 R167, R174 to R176): each record has at most one write waiting or in flight, and a bank copy at most one slice; a swap flag write carries the flag's target; the flag is written only while SWAPPING, and the copy's slices follow its write. -/
structure PortLaws (st : Store) : Prop where
  oneAloft : st.waiting.count .aloftWrite + (MemOp.isAloft st.inFlight).toNat ≤ 1
  oneLock : st.waiting.count .lockWrite + (MemOp.isLock st.inFlight).toNat ≤ 1
  oneFlag : st.waiting.count .flagWrite + (MemOp.isFlag st.inFlight).toNat ≤ 1
  oneSlice : st.waiting.countP MemRequest.isCopySlice + (MemOp.isCopySlice st.inFlight).toNat ≤ 1
  flagValue : ∀ v, st.inFlight = some (.flagWrite v) → v = st.flag.target
  swapping : .flagWrite ∈ st.waiting ∨ MemOp.isFlag st.inFlight = true ∨ st.flag.target ≠ st.flag.stored →
    st.copy.isSome = true
  slices : (∃ i, .copySlice i ∈ st.waiting) ∨ MemOp.isCopySlice st.inFlight = true →
    st.copy.isSome = true ∧ st.flag.target = st.flag.stored ∧ .flagWrite ∉ st.waiting
      ∧ MemOp.isFlag st.inFlight = false

/-- The aloft record's stored value and the lock record's are both set (09 R176). -/
abbrev BothStored (s : State) : Prop := s.store.aloft.stored ≠ .clear ∧ s.store.lockRec.stored ≠ none

/-- The laws by which the station's own writes never leave both records set (09 R176, 10 R178, R182). -/
structure RecordLaws (s : State) : Prop where
  port : PortLaws s.store
  /-- The lock copy is the lock record's target. -/
  copy : s.store.lockRec.target = s.lock.copy
  /-- The aloft record's target is clear in PARKED and while the lock is kept. -/
  parked : s.axis.state = .parked → s.store.aloft.target = .clear
  lockedClear : s.lock.copy.isSome = true → s.store.aloft.target = .clear
  /-- No cue is armed or flown while the store is SWAPPING (03 R50, 09 R174). -/
  swapAtRest : s.store.copy.isSome = true → s.axis.state ≠ .armed ∧ s.axis.state ≠ .flying
  /-- A lock record that differs from its target has its write waiting or in flight. -/
  lockAsked : s.store.lockRec.target ≠ s.store.lockRec.stored →
    .lockWrite ∈ s.store.waiting ∨ MemOp.isLock s.store.inFlight = true
  /-- A write of a set record carries what its owner still wants. -/
  lockWrite : ∀ c, s.store.inFlight = some (.lockWrite (some c)) → s.store.lockRec.target = some c
  aloftWrite : ∀ v, s.store.inFlight = some (.aloftWrite v) → v ≠ .clear →
    s.store.lockRec.target = none ∧ (s.store.lockRec.stored = none ∨ s.store.aloft.stored ≠ .clear)
  /-- A lock still to be written found the aloft record clear (10 R179). -/
  locking : s.store.lockRec.target ≠ none →
    (s.store.lockRec.target ≠ s.store.lockRec.stored ∨ .lockWrite ∈ s.store.waiting
      ∨ MemOp.isLock s.store.inFlight = true) →
    s.store.aloft.stored = .clear
  /-- Where a set lock record stands beside a clear aloft record whose write waits, the lock record's write goes first, or the aloft record's is still to write it clear. -/
  order : s.store.lockRec.stored ≠ none → s.store.aloft.stored = .clear → .aloftWrite ∈ s.store.waiting →
    s.store.waiting.idxOf .lockWrite < s.store.waiting.idxOf .aloftWrite
      ∨ MemOp.isLock s.store.inFlight = true
      ∨ MemOp.isFlag s.store.inFlight = true ∧ s.store.aloft.target = .clear

end Sys2Proof.Machine
end

