-- ==== Sys2Proof/Certificates/Slice0/Obligations.lean ====
section
/-! DEFINITION. The statements for the provers. Every statement of the form `exec c s` answers a next state holds under hypotheses on the state and operands alone. -/

open Sys2Proof Sys2Proof.Machine

/-! ### The machine -/

/-- A step takes the command at the front of the queue and runs it on the state with the queue's rest. The queue is the model's own field: log entry 2. -/
def Obligations.StepTakesFront : Prop :=
  ∀ (c : Instr) (rest : List Instr) (s : State), step (s.withPending (c :: rest)) = exec c (s.withPending rest)

/-- The machine at reset: held at rest, brake set, demand 0, nothing queued, nothing latched, blank memory (11 R185; what the spec does not give is log entry 5), with every law that a step keeps. -/
def Obligations.ResetState : Prop :=
  (State.reset.power = .held ∧ State.reset.axis.brake = .set ∧ State.reset.axis.demand = 0
     ∧ State.reset.axis.faults = noFaults ∧ State.reset.reg.table = [] ∧ State.reset.reg.generation = 0
     ∧ State.reset.sync.phase = .idle ∧ State.reset.sync.waitList = [] ∧ State.reset.cue.queue = []
     ∧ State.reset.cue.current = none ∧ State.reset.cue.held = none ∧ State.reset.cue.showStop = false
     ∧ State.reset.engine.state = .idle ∧ (∀ n < 48, State.reset.roster.entry n = RosterEntry.absent)
     ∧ State.reset.line.queue = [] ∧ State.reset.line.slot = none ∧ State.reset.store.mem = []
     ∧ State.reset.store.waiting = [] ∧ State.reset.store.inFlight = none ∧ State.reset.lock.copy = none
     ∧ State.reset.pending = [])
  ∧ (MemoryCanonical State.reset ∧ QueuesBounded State.reset ∧ TableBounded State.reset ∧ SlotsFit State.reset
     ∧ AxisLaws State.reset ∧ RegisterLaws State.reset ∧ RecordLaws State.reset)

/-- A part held at rest takes no event but its start (11 R185), and a DEAF or LISTEN-ONLY station takes no delivery, of a post that is not fitting as of any other (07 R145, R146). -/
def Obligations.StillPartsTakeNothing : Prop :=
  (∀ (i : Instr) (s : State), s.power = .held →
    match i with
    | .startSequence .. | .restartAssert => True
    | _ => exec i s = .next s)
  ∧ (∀ (i : Instr) (s : State), s.power = .running → s.line.state = .deaf ∨ s.line.state = .listenOnly →
      (∃ d, i.delivered = some d) ∨ (∃ n raw, i = .unfittingPost n raw) → exec i s = .next s)

/-- START_SEQUENCE of a held part: listen-only without a valid configuration record, else the join step, at which the blocks hold what their start values, the configuration and the records read from memory give (11 R185 to R190; 01 R25; 03 R75; 04 R95; 05 R119; 07 R151; 09 R176, R177; 10 R184). START_SEQUENCE of a running part is RESTART_ASSERT and then START_SEQUENCE, which is the model's reading: log entry 22. -/
def Obligations.StartSequenceJoins : Prop :=
  (∀ (strap : Fin 32) (pin : Bool) (inputs : WinchInputs) (s : State), s.power = .held →
    (readConfig s.store.mem strap.val = none →
      ∃ t, exec (.startSequence strap pin inputs) s = .next t ∧ t.power = .running ∧ t.strap = strap.val
        ∧ t.cfg = none ∧ t.line = ⟨.listenOnly, .notWatching, none, [], none, false, none, 0, 0, none, none, 0, []⟩
        ∧ t.axis.state = .unconfigured ∧ t.axis.brake = .set
        ∧ t.axis.demand = 0 ∧ t.reg = ⟨[], [], 0, .stale⟩ ∧ t.store.mem = s.store.mem ∧ t.store.pinForced = pin
        ∧ t.store.active = none ∧ t.store.working = ⟨[], false⟩ ∧ t.store.verified = false
        ∧ t.store.swapPending = none ∧ t.store.copy = none ∧ t.store.waiting = [] ∧ t.store.inFlight = none
        ∧ t.lock.copy = none ∧ t.pending = s.pending)
    ∧ ∀ c, readConfig s.store.mem strap.val = some c →
      ∃ t, exec (.startSequence strap pin inputs) s = .next t ∧ t.power = .running ∧ t.strap = strap.val
        ∧ t.cfg = some c
        ∧ t.line = ⟨.joining, .awaitIdle, some 100, [], none, false, none, 0, 0, none, none, 0, []⟩
        ∧ t.reg = ⟨c.zones, [], 0, .syncing⟩ ∧ t.sync = SyncUnit.start ∧ t.roster = Roster.start
        ∧ t.axis.state = (if (readLock s.store.mem).isSome then .locked
            else if (c.groundBand : Int) < inputs.haul then .recovery else .parked)
        ∧ t.axis = ⟨t.axis.state, none, noFaults, 0, .set, some 200, none, inputs, none⟩
        ∧ t.cue.queue = [] ∧ t.cue.current = none ∧ t.cue.showStop = false
        ∧ t.cue.slots = c.members.map (fun _ => none) ∧ t.cue.held = heldOfAloft c.flyer (readAloft s.store.mem)
        ∧ t.cue.chainDelay = none ∧ t.cue.readyWait = none ∧ t.cue.spaceWait = none ∧ t.cue.owedRelease = none
        ∧ t.cue.owed = []
        ∧ t.engine = ⟨.idle, none, 0, 0, .forward, 0, 0, 0, 0, 0, 0, inputs.haul * 1000000⟩
        ∧ t.store.pinForced = pin
        ∧ t.store.active = some (if pin then .a else if Memory.read s.store.mem 64 = 1 then .b else .a)
        ∧ t.store.working.words
            = readBank s.store.mem (if pin then .a else if Memory.read s.store.mem 64 = 1 then .b else .a)
        ∧ (t.store.working.valid = true ↔ validateBank c.maxHaul c.speedLimit t.store.working.words = .ok)
        ∧ t.store.verified = false ∧ t.store.lastVerified = 0 ∧ t.store.area = .header ∧ t.store.index = 0
        ∧ t.store.buffer = [] ∧ t.store.commit = none ∧ t.store.verify = none ∧ t.store.swapPending = none
        ∧ t.store.copy = none ∧ t.store.aloft.stored = readAloft s.store.mem
        ∧ t.store.aloft.target
            = (if t.axis.state = .parked ∨ t.axis.state = .locked then .clear else readAloft s.store.mem)
        ∧ t.store.lockRec = ⟨readLock s.store.mem, readLock s.store.mem⟩
        ∧ t.store.flag = ⟨Memory.read s.store.mem 64, Memory.read s.store.mem 64⟩ ∧ t.store.waiting = []
        ∧ t.store.inFlight = (if t.store.aloft.target = t.store.aloft.stored then none else some (.aloftWrite .clear))
        ∧ t.lock.copy = readLock s.store.mem ∧ t.store.mem = s.store.mem ∧ t.pending = s.pending)
  ∧ (∀ (strap : Fin 32) (pin : Bool) (inputs : WinchInputs) (s : State), s.power = .running →
    ∃ u, exec .restartAssert s = .next u ∧ u.power = .held
      ∧ exec (.startSequence strap pin inputs) s = exec (.startSequence strap pin inputs) u)

/-- RESTART_ASSERT holds the part at rest with every block at its start value; program memory keeps every word that no write in flight addresses (11 R185, 09 R167). What a held part holds where no rule says, strap 0, no configuration, axis UNCONFIGURED, no active bank, the unread inputs and the unread records among it, is the model's choice: log entries 5, 25 and 37. The words of a write cut short are free values: log entry 7. -/
def Obligations.RestartHolds : Prop :=
  ∀ s : State, MemoryCanonical s →
    ∃ t, exec .restartAssert s = .next t ∧ t = State.held t.store.mem t.freeCount s.pending
      ∧ ∀ a, a ∉ MemOp.addresses s.store.inFlight → Memory.read t.store.mem a = Memory.read s.store.mem a

/-! ### The axis -/

/-- The ramp step of a demand towards 0 by a stop deceleration (05 R103). -/
def rampStep (d : Int) (dec : Nat) : Int :=
  if -(dec : Int) ≤ d ∧ d ≤ dec then 0 else if 0 < d then d - dec else d + dec

/-- The demand after one sample's slew: towards the target of the step being played, in thousandths of mm/s, and towards 0 while settling (04 R79, R80). -/
def sampledDemand (s : State) : Int :=
  slew s.engine.demand (if s.engine.state = .playing then s.engine.target * 1000 else 0) s.conf.accelLimit

/-- The engine after one sample's slew: the planned haul advances by the new demand, and the step timer of a step being played counts down (04 R79, R81). -/
def sampledEngine (s : State) : Engine :=
  { s.engine with
    demand := sampledDemand s, planned := s.engine.planned + sampledDemand s
    stepTimer := if s.engine.state = .playing then s.engine.stepTimer - 1 else s.engine.stepTimer }

/-- The step being played is the last of the run (04 R84 to R89). -/
def onLastStep (e : Engine) : Prop :=
  ∃ p, e.play = some p ∧ e.stepsLeft ≤ 1 ∧ (p.mode = .swing → e.dir = .back ∧ e.remaining ≤ 1)

/-- The engine's work at a sample brings the run to its completion: it settles at demand 0, or its last step ends there with the demand at 0 (04 R89, R90). -/
def completesAtSample (s : State) : Prop :=
  sampledDemand s = 0
    ∧ (s.engine.state = .settling ∨ s.engine.state = .playing ∧ s.engine.stepTimer ≤ 1 ∧ onLastStep s.engine)

/-- What an entry into FAULTED at a sample of inputs `i` leaves (05 R112, 03 R69). -/
def enteredFaulted (i : WinchInputs) (s t : State) : Prop :=
  t.axis.state = .faulted ∧ t.axis.brake = .set ∧ t.axis.demand = 0 ∧ t.axis.ramp = none ∧ t.axis.origin = none
    ∧ t.axis.inputs = i ∧ t.cue.current = none ∧ t.cue.queue = []
    ∧ Post.halt s.flyer (if i.estop then 1 else 2) ∈ newPosts s t ∧ FrameBut [.axis, .engine, .cue, .line, .store] s t

/-- The PRESENCE that reports a change, entering an empty slot, is younger than every other post of the event (05 R112, 07 R147). -/
def reportedLast (s t : State) : Prop :=
  s.line.slot = none → ∃ p, t.line.slot = some p ∧ ∀ o ∈ t.line.queue, o.age < p.age

/-- The sample leaves the brake command as it was: at rest, in ARMED, in FLYING short of the completion, in STOPPING short of the ramp's end or waiting for the brake, and in LOCKED with the brake set and no jog (05 R98, R103, R104, R117). -/
def keepsBrakeCommand (i : WinchInputs) (s : State) : Prop :=
  (s.axis.state = .flying ∧ ¬completesAtSample s)
    ∨ (s.engine.state = .idle
        ∧ (AxisState.atRest s.axis.state = true ∨ s.axis.state = .armed
          ∨ (s.axis.state = .stopping
              ∧ (s.axis.brake = .set ∨ rampStep s.axis.demand s.conf.stopDecel ≠ 0))
          ∨ (s.axis.state = .locked ∧ s.axis.brake = .set ∧ i.jogUp = false ∧ i.jogDown = false)))

/-- The planned haul a moving line is watched by: the engine's in FLYING short of the completion, the ramp's in STOPPING (05 R109). -/
def watchedPlan (i : WinchInputs) (s : State) (p : Int) : Prop :=
  (s.axis.state = .flying ∧ s.engine.state ≠ .idle ∧ ¬completesAtSample s
      ∧ p = s.engine.planned + sampledDemand s)
    ∨ (s.axis.state = .stopping ∧ s.engine.state = .idle
        ∧ ((s.axis.brake = .released
              ∧ ∃ r, s.axis.ramp = some r ∧ p = r + rampStep s.axis.demand s.conf.stopDecel)
            ∨ (s.axis.brake = .set ∧ i.feedback = .released ∧ s.axis.ramp = some p)))

/-- A fault found at a sample outside FAULTED enters FAULTED: brake set, demand 0, the kinds latched, no current cue, an empty queue, HALT with reason ESTOP or FAULT posted, and the report last. ESTOP, DRIVE and OVERLOAD are found in every state; BRAKE where the confirmation timer expires at the sample and the feedback differs from the command; FOLLOW, SLACK and LIMIT in FLYING and STOPPING, and not at the sample that ends them (05 R98, R101, R105 to R112; 03 R69; 07 R147). -/
def Obligations.SampleEntersFaulted : Prop :=
  ∀ (i : WinchInputs) (s : State), CalmOn s → s.axis.state ≠ .faulted → s.axis.state ≠ .unconfigured →
    (i.estop = true ∨ i.driveFault = true ∨ (s.conf.overloadThreshold : Int) < i.load →
      ∃ t, exec (.axisSample i) s = .next t ∧ enteredFaulted i s t
        ∧ (i.estop = true → t.axis.faults.estop = true) ∧ (i.driveFault = true → t.axis.faults.drive = true)
        ∧ ((s.conf.overloadThreshold : Int) < i.load → t.axis.faults.overload = true))
    ∧ (keepsBrakeCommand i s → s.axis.brakeTimer.map (· - 1) = some 0 → i.feedback ≠ s.axis.brake →
      ∃ t, exec (.axisSample i) s = .next t ∧ enteredFaulted i s t ∧ t.axis.faults.brake = true
        ∧ reportedLast s t)
    ∧ (∀ p, watchedPlan i s p →
      ((s.conf.followLimit : Int) * 1000000 < |p - i.haul * 1000000| →
        ∃ t, exec (.axisSample i) s = .next t ∧ enteredFaulted i s t ∧ t.axis.faults.follow = true
          ∧ reportedLast s t)
      ∧ (i.load < (s.conf.slackThreshold : Int) →
        ∃ t, exec (.axisSample i) s = .next t ∧ enteredFaulted i s t ∧ t.axis.faults.slack = true
          ∧ reportedLast s t)
      ∧ (((s.conf.maxHaul : Int) < i.haul
            ∨ ∃ u l, s.axis.limits = some (u, l) ∧ (i.upper = true ∧ u = false ∨ i.lower = true ∧ l = false)) →
        ∃ t, exec (.axisSample i) s = .next t ∧ enteredFaulted i s t ∧ t.axis.faults.limit = true
          ∧ reportedLast s t))

/-- In FAULTED a sample adds the newly detected kinds and does nothing else: no post, no flush, no change of state (05 R113). -/
def Obligations.FaultedSampleAddsKinds : Prop :=
  ∀ (i : WinchInputs) (s : State), CalmOn s → s.axis.state = .faulted → s.engine.state = .idle →
    ∃ t, exec (.axisSample i) s = .next t ∧ t.axis.state = .faulted ∧ t.axis.brake = s.axis.brake
      ∧ t.axis.demand = 0
      ∧ t.axis.faults = FaultSet.union s.axis.faults
          ⟨i.estop, i.driveFault, decide ((s.conf.overloadThreshold : Int) < i.load),
           decide (s.axis.brakeTimer.map (· - 1) = some 0) && decide (i.feedback ≠ s.axis.brake),
           false, false, false, false⟩
      ∧ (t.axis.faults ≠ s.axis.faults → t.line.slot.isSome = true)
      ∧ t.line.queue = s.line.queue ∧ FrameBut [.axis, .line] s t

/-- At rest and in ARMED a sample that finds no fault holds the demand at 0 and takes the inputs; nothing else changes (05 R98, 04 R96). -/
def Obligations.RestSampleFrame : Prop :=
  ∀ (i : WinchInputs) (s : State), Calm s →
    (AxisState.atRest s.axis.state = true ∨ s.axis.state = .armed) → s.engine.state = .idle →
    i.estop = false → i.driveFault = false → i.load ≤ (s.conf.overloadThreshold : Int) →
    (s.axis.brakeTimer.map (· - 1) ≠ some 0 ∨ i.feedback = s.axis.brake) →
    ∃ t, exec (.axisSample i) s = .next t
      ∧ t.axis = { s.axis with
          demand := 0, inputs := i, brakeTimer := s.axis.brakeTimer.map (· - 1), limits := some (i.upper, i.lower) }
      ∧ FrameBut [.axis] s t

/-- In LOCKED a sample without a fault decides the jog: brake released and 50 mm/s up with jog up alone active, the haul below the ground band and the upper limit inactive; 50 mm/s down with jog down alone active, the haul above 0 and the lower limit inactive; and otherwise brake set and demand 0 (05 R117). -/
def Obligations.JogDecision : Prop :=
  ∀ (i : WinchInputs) (s : State), Calm s → s.axis.state = .locked → s.engine.state = .idle →
    i.estop = false → i.driveFault = false → i.load ≤ (s.conf.overloadThreshold : Int) →
    (s.axis.brakeTimer.map (· - 1) ≠ some 0 ∨ i.feedback = s.axis.brake) →
    ∃ t, exec (.axisSample i) s = .next t ∧ t.axis.state = .locked ∧ t.axis.faults = s.axis.faults
      ∧ (i.jogUp = true ∧ i.jogDown = false ∧ i.haul < (s.conf.groundBand : Int) ∧ i.upper = false →
          t.axis.brake = .released ∧ t.axis.demand = 50000)
      ∧ (i.jogDown = true ∧ i.jogUp = false ∧ 0 < i.haul ∧ i.lower = false →
          t.axis.brake = .released ∧ t.axis.demand = -50000)
      ∧ (¬(i.jogUp = true ∧ i.jogDown = false ∧ i.haul < (s.conf.groundBand : Int) ∧ i.upper = false) →
          ¬(i.jogDown = true ∧ i.jogUp = false ∧ 0 < i.haul ∧ i.lower = false) →
          t.axis.brake = .set ∧ t.axis.demand = 0)
      ∧ (t.axis.brake ≠ s.axis.brake → t.axis.brakeTimer = some 200) ∧ FrameBut [.axis] s t

/-- The sample finds no limit input newly active: each that is active was so at the sample before (05 R110). -/
def noLimitRises (i : WinchInputs) (s : State) : Prop :=
  ∀ u l, s.axis.limits = some (u, l) → (i.upper = true → u = true) ∧ (i.lower = true → l = true)

/-- In STOPPING a sample without a fault lowers the demand and advances the planned haul, sets the brake where the demand reaches 0, waits with the brake set while its feedback reads RELEASED, and with its feedback SET leaves for PARKED or HOLDING by haul (05 R103 to R105, R110). -/
def Obligations.StoppingRampAndBrakeWait : Prop :=
  ∀ (i : WinchInputs) (s : State), Calm s → s.axis.state = .stopping → s.engine.state = .idle →
    i.estop = false → i.driveFault = false → i.load ≤ (s.conf.overloadThreshold : Int) →
    (s.axis.brake = .released → ∀ p, s.axis.ramp = some p →
      (s.conf.slackThreshold : Int) ≤ i.load → noLimitRises i s → i.haul ≤ (s.conf.maxHaul : Int) →
      (s.axis.brakeTimer.map (· - 1) ≠ some 0 ∨ i.feedback = .released
        ∨ rampStep s.axis.demand s.conf.stopDecel = 0) →
      |p + rampStep s.axis.demand s.conf.stopDecel - i.haul * 1000000| ≤ (s.conf.followLimit : Int) * 1000000 →
      ∃ t, exec (.axisSample i) s = .next t ∧ t.axis.state = .stopping
        ∧ t.axis.demand = rampStep s.axis.demand s.conf.stopDecel
        ∧ t.axis.ramp = some (p + rampStep s.axis.demand s.conf.stopDecel)
        ∧ (t.axis.demand = 0 → t.axis.brake = .set ∧ t.axis.brakeTimer = some 200)
        ∧ (t.axis.demand ≠ 0 → t.axis.brake = .released) ∧ FrameBut [.axis] s t)
    ∧ (s.axis.brake = .set → i.feedback = .released → ∀ p, s.axis.ramp = some p →
      (s.conf.slackThreshold : Int) ≤ i.load → noLimitRises i s → i.haul ≤ (s.conf.maxHaul : Int) →
      s.axis.brakeTimer.map (· - 1) ≠ some 0 →
      |p - i.haul * 1000000| ≤ (s.conf.followLimit : Int) * 1000000 →
      ∃ t, exec (.axisSample i) s = .next t
        ∧ t.axis = { s.axis with
            demand := 0, inputs := i, brakeTimer := s.axis.brakeTimer.map (· - 1), limits := some (i.upper, i.lower) }
        ∧ FrameBut [.axis] s t)
    ∧ (s.axis.brake = .set → i.feedback = .set →
      ∃ t, exec (.axisSample i) s = .next t
        ∧ t.axis.state = (if i.haul ≤ (s.conf.groundBand : Int) then .parked else .holding)
        ∧ t.axis.demand = 0 ∧ t.axis.ramp = none ∧ t.axis.brake = .set
        ∧ FrameBut [.axis, .line, .store] s t)

/-- What a completed run leaves at haul `h`: DONE posted, PARKED at or below the ground band and POISED above it, brake set, demand 0 and the confirmation timer started, the engine idle, no current cue; a LANDING segment leaves no held claim and the lead posts RELEASE of its run key, any other leaves its own claim held (03 R71, R73; 04 R90; 05 R101; 09 R176). -/
def runCompleted (s t : State) (c : CurrentCue) (h : Int) : Prop :=
  t.axis.state = (if h ≤ (s.conf.groundBand : Int) then .parked else .poised) ∧ t.axis.brake = .set
    ∧ t.axis.demand = 0 ∧ (s.axis.brake = .released → t.axis.brakeTimer = some 200)
    ∧ t.axis.faults = s.axis.faults ∧ t.engine.state = .idle ∧ t.engine.demand = 0 ∧ t.cue.current = none
    ∧ t.cue.queue = s.cue.queue ∧ t.cue.held = (if c.landing then none else some ⟨c.runKey, c.box⟩)
    ∧ newPosts s t = .done s.flyer c.segment c.reps
        :: (if c.landing = true ∧ s.isLead = true then [.release c.runKey] else [])
    ∧ t.line.slot.isSome = true
    ∧ t.store.aloft.target = (if h ≤ (s.conf.groundBand : Int) then .clear
        else if c.landing = true ∧ s.store.aloft.target ≠ .clear then .set s.flyer 0xFFFF 0xFFFF 0xFFFF 0xFFFF
        else s.store.aloft.target)
    ∧ FrameBut [.axis, .engine, .cue, .line, .store] s t

/-- In FLYING a sample without a fault lets the engine work and drives its demand: the demand moves towards the step's target, or towards 0 while settling, the planned haul advances by it and the step timer counts down; at the sample that counts the timer to 0 the engine does what STEP_END does; and where the run completes the axis leaves FLYING before the tests of a moving line (03 R71; 04 R79 to R82, R89, R90; 05 R98, R100, R101, R105, R110). The step end is made inside the sample as well as on its own: log entry 4. -/
def Obligations.FlyingDrivesEngineDemand : Prop :=
  ∀ (i : WinchInputs) (s : State), CalmOn s → s.axis.state = .flying → s.axis.brake = .released →
    i.estop = false → i.driveFault = false → i.load ≤ (s.conf.overloadThreshold : Int) →
    (¬completesAtSample s → (s.conf.slackThreshold : Int) ≤ i.load → noLimitRises i s →
      i.haul ≤ (s.conf.maxHaul : Int) → (s.axis.brakeTimer.map (· - 1) ≠ some 0 ∨ i.feedback = .released) →
      |s.engine.planned + sampledDemand s - i.haul * 1000000| ≤ (s.conf.followLimit : Int) * 1000000 →
      (s.engine.state = .playing → 2 ≤ s.engine.stepTimer →
        ∃ t, exec (.axisSample i) s = .next t ∧ t.axis.state = .flying ∧ t.engine = sampledEngine s
          ∧ t.axis.demand = sampledDemand s ∧ t.axis.brake = .released ∧ FrameBut [.axis, .engine] s t)
      ∧ (s.engine.state = .playing → s.engine.stepTimer ≤ 1 →
        ∃ t u, exec (.axisSample i) s = .next t ∧ exec .stepEnd { s with engine := sampledEngine s } = .next u
          ∧ t.axis.state = .flying ∧ t.engine = u.engine ∧ t.engine.demand = sampledDemand s
          ∧ t.engine.planned = s.engine.planned + sampledDemand s ∧ t.axis.demand = sampledDemand s
          ∧ t.axis.brake = .released ∧ FrameBut [.axis, .engine] s t)
      ∧ (s.engine.state = .settling →
        ∃ t, exec (.axisSample i) s = .next t ∧ t.axis.state = .flying ∧ t.engine = sampledEngine s
          ∧ t.axis.demand = sampledDemand s ∧ t.axis.brake = .released ∧ FrameBut [.axis, .engine] s t))
    ∧ (∀ c, completesAtSample s → s.cue.current = some c → c.phase = .running →
      ∃ t, exec (.axisSample i) s = .next t ∧ t.axis.inputs = i ∧ runCompleted s t c i.haul)

/-- The slew moves the demand towards its goal by at most the limit, reaches it when it is within it, and never passes it (04 R80). -/
def Obligations.SlewRule : Prop :=
  ∀ (d g : Int) (a : Nat),
    (|g - d| ≤ (a : Int) → slew d g a = g)
      ∧ ((a : Int) < |g - d| → |slew d g a - d| = (a : Int) ∧ |g - slew d g a| = |g - d| - (a : Int))

/-- The target speed of the cursor's column as played: the stored speed forward, its negative back (04 R83). -/
def targetAt (s : State) (e : Engine) : Int :=
  match e.dir with
  | .forward => speedAt s.store.working.words e.row e.col
  | .back => -(speedAt s.store.working.words e.row e.col)

/-- A step end loads the pass's next step with its target speed, turns a SWING, begins its next pass or ends the run's last step; a last step that ends with the demand at 0 completes the run (04 R82 to R90; 03 R71). STEP_END standing alone ends the step being played whatever its step timer holds: log entry 4. -/
def Obligations.StepEndMovesCursor : Prop :=
  ∀ (s : State) (p : Play), Calm s → s.engine.state = .playing → s.engine.play = some p →
    (2 ≤ s.engine.stepsLeft →
      ∃ t, exec .stepEnd s = .next t ∧ t.engine.stepIndex = s.engine.stepIndex + 1
        ∧ t.engine.stepsLeft = s.engine.stepsLeft - 1
        ∧ (p.mode = .once →
            32 * t.engine.row + t.engine.col = 32 * s.engine.row + s.engine.col + 1 ∧ t.engine.col < 32)
        ∧ (p.mode = .back →
            32 * t.engine.row + t.engine.col = 32 * s.engine.row + s.engine.col - 1 ∧ t.engine.col < 32)
        ∧ (p.mode = .swing → t.engine.row = s.engine.row
            ∧ t.engine.col = (if s.engine.dir = .forward then s.engine.col + 1 else s.engine.col - 1))
        ∧ t.engine.target = targetAt s t.engine ∧ t.engine.stepTimer = p.stepTime ∧ t.engine.dir = s.engine.dir
        ∧ t.engine.remaining = s.engine.remaining ∧ t.engine.demand = s.engine.demand
        ∧ t.engine.planned = s.engine.planned ∧ t.engine.state = .playing ∧ FrameBut [.engine] s t)
    ∧ (p.mode = .swing → s.engine.dir = .forward → s.engine.stepsLeft = 1 →
      ∃ t, exec .stepEnd s = .next t ∧ t.engine.stepIndex = s.engine.stepIndex + 1 ∧ t.engine.dir = .back
        ∧ t.engine.stepsLeft = p.m ∧ t.engine.row = s.engine.row ∧ t.engine.col = s.engine.col
        ∧ t.engine.stepTimer = p.stepTime
        ∧ t.engine.target = -(speedAt s.store.working.words s.engine.row s.engine.col)
        ∧ t.engine.remaining = s.engine.remaining ∧ FrameBut [.engine] s t)
    ∧ (p.mode = .swing → s.engine.dir = .back → s.engine.stepsLeft = 1 → 2 ≤ s.engine.remaining →
      ∃ t, exec .stepEnd s = .next t ∧ t.engine.remaining = s.engine.remaining - 1 ∧ t.engine.dir = .forward
        ∧ t.engine.row = p.row ∧ t.engine.col = p.first ∧ t.engine.stepsLeft = p.n
        ∧ t.engine.stepIndex = s.engine.stepIndex + 1
        ∧ t.engine.target = speedAt s.store.working.words p.row p.first
        ∧ t.engine.stepTimer = p.stepTime ∧ FrameBut [.engine] s t)
    ∧ (s.engine.stepsLeft = 1 → s.engine.remaining = 1 → s.engine.demand ≠ 0 →
        ¬(p.mode = .swing ∧ s.engine.dir = .forward) →
      ∃ t, exec .stepEnd s = .next t ∧ t.engine.state = .settling ∧ t.engine.remaining = 0
        ∧ t.engine.stepTimer = 0 ∧ t.engine.target = 0 ∧ t.engine.stepIndex = s.engine.stepIndex + 1
        ∧ t.engine.row = s.engine.row ∧ t.engine.col = s.engine.col ∧ FrameBut [.engine] s t)
    ∧ (∀ c, s.line.state = .on → s.engine.stepsLeft = 1 → s.engine.remaining = 1 → s.engine.demand = 0 →
        ¬(p.mode = .swing ∧ s.engine.dir = .forward) → s.axis.state = .flying → s.cue.current = some c →
        c.phase = .running →
      ∃ t, exec .stepEnd s = .next t ∧ t.engine.stepIndex = s.engine.stepIndex + 1
        ∧ runCompleted s t c s.axis.inputs.haul)

/-- The brake confirmation expires: a feedback that agrees changes nothing but the timer; one that disagrees latches BRAKE and enters or stays in FAULTED (05 R105, R112, R113). The confirmation is made inside the sample as well as on its own: log entry 4. -/
def Obligations.BrakeConfirmationTests : Prop :=
  ∀ (s : State) (n : Nat), CalmOn s → s.axis.state ≠ .unconfigured → s.axis.brakeTimer = some (n + 1) →
    (s.axis.inputs.feedback = s.axis.brake →
      ∃ t, exec .brakeConfirmationExpiry s = .next t ∧ t.axis = { s.axis with brakeTimer := some 0 }
        ∧ FrameBut [.axis] s t)
    ∧ (s.axis.inputs.feedback ≠ s.axis.brake →
      ∃ t, exec .brakeConfirmationExpiry s = .next t ∧ t.axis.state = .faulted ∧ t.axis.faults.brake = true
        ∧ FrameBut [.axis, .engine, .cue, .line] s t)

/-! ### The rig line -/

/-- A value held in a field of bounded range: the nearest value it holds (08 R160). -/
def nearestIn (lo hi v : Int) : Int := max lo (min hi v)

/-- Contention: the station enters its retry post, else its post of the lowest class and within it the oldest, the PRESENCE of the slot as class 3; that post begins where no other entry goes before it, and another's begins otherwise. A TABLE-START that begins carries the generation and the number of entries and takes the answer's snapshot, a PRESENCE carries the station's values, haul and load held to the nearest value of their fields, and the post goes out under the station's number with its check (02 R32; 06 R125; 07 R136, R137, R147; 08 R152, R153, R160). The other stations' entries come with the command: log entry 13. -/
def Obligations.PostBeginArbitrates : Prop :=
  (∀ l : Line,
    (∀ a, l.retry = some (.queued a) → (∃ o ∈ l.queue, o.age = a) → ∃ c, Line.select l = some c ∧ c.ref = .queued a)
    ∧ (l.retry = some .slot → l.slot.isSome = true → ∃ c, Line.select l = some c ∧ c.ref = .slot)
    ∧ (l.retry = none → l.queue = [] → l.slot = none → Line.select l = none)
    ∧ (l.retry = none → (l.queue ≠ [] ∨ l.slot.isSome = true) →
      ∃ c, Line.select l = some c
        ∧ ((∃ o ∈ l.queue, c = ⟨Post.cls o.post, o.age, .queued o.age⟩)
            ∨ ∃ p, l.slot = some p ∧ c = ⟨3, p.age, .slot⟩)
        ∧ (∀ o ∈ l.queue, c.cls < Post.cls o.post ∨ (c.cls = Post.cls o.post ∧ c.age ≤ o.age))
        ∧ (∀ p, l.slot = some p → c.cls < 3 ∨ (c.cls = 3 ∧ c.age ≤ p.age))))
  ∧ (∀ (others : List Contender) (s : State), Calm s → s.line.state = .on → s.line.onLine = none →
    (∀ c, Line.select s.line = some c →
      (∀ o ∈ others, c.cls < o.cls ∨ (c.cls = o.cls ∧ s.strap ≤ o.sender)) →
      ∃ t, exec (.postBegin others) s = .next t ∧ t.line.onLine = some (.own c.ref)
        ∧ t.line.queue.length = s.line.queue.length ∧ FrameBut [.line, .sync] s t
        ∧ (∀ a o, c.ref = .queued a → s.line.queue.find? (fun x => x.age == a) = some o →
            (∀ q g n, o.post = .tableStart q g n →
              t.line.queue.find? (fun x => x.age == a)
                  = some { o with post := .tableStart q s.reg.generation s.reg.table.length }
                ∧ t.sync = { s.sync with answer := some ⟨some ⟨s.reg.generation, s.reg.table⟩⟩ })
            ∧ ((∀ q g n, o.post ≠ .tableStart q g n) → (∀ x ∈ s.line.queue, x.age = a → x = o) →
                t.line.queue = s.line.queue ∧ t.sync = s.sync
                  ∧ frameOnLine t = some ⟨s.strap, encodePost o.post, frameCheck s.strap (encodePost o.post)⟩)))
    ∧ (∀ c, Line.select s.line = some c →
      (∃ o ∈ others, o.cls < c.cls ∨ (c.cls = o.cls ∧ o.sender < s.strap)) →
      ∃ t, exec (.postBegin others) s = .next t ∧ t.line = { s.line with onLine := some .other }
        ∧ FrameBut [.line] s t)
    ∧ (∀ p0, Line.select s.line = some ⟨3, p0.age, .slot⟩ → s.line.slot = some p0 →
      (∀ o ∈ others, 3 < o.cls ∨ (3 = o.cls ∧ s.strap ≤ o.sender)) →
      ∃ t p, exec (.postBegin others) s = .next t ∧ t.line.onLine = some (.own .slot)
        ∧ t.line.slot = some ⟨p0.age, some p⟩ ∧ p.axis = some s.axis.state ∧ p.reg = some s.reg.state
        ∧ p.flyer = s.flyer ∧ p.generation = s.reg.generation ∧ p.activeShow = bankShow s.store.working.words
        ∧ p.runSegment = s.cue.current.map (·.segment) ∧ p.stepIndex = s.engine.stepIndex
        ∧ p.haul = nearestIn (-8388608) 8388607 s.axis.inputs.haul
        ∧ p.load = nearestIn (-32768) 32767 s.axis.inputs.load
        ∧ p.faults = s.axis.faults ∧ p.showStop = s.cue.showStop ∧ p.swapPending = s.store.swapPending.isSome
        ∧ p.swapping = s.store.copy.isSome ∧ p.locked = s.lock.copy.isSome ∧ p.bankForced = s.store.pinForced
        ∧ frameOnLine t
            = some ⟨s.strap, encodePost (.presence p), frameCheck s.strap (encodePost (.presence p))⟩
        ∧ t.line.queue = s.line.queue ∧ FrameBut [.line] s t))

/-- The set lead gives back the space of the armed cue `c` that the set never used (03 R65). -/
abbrev givesBack (s : State) (c : CurrentCue) : Prop :=
  s.isLead = true ∧ s.cue.held.map (·.key) ≠ some c.runKey ∧ hasKey s.reg.table c.runKey = true

/-- What the drop of the armed cue `c` keeps as owed release where its posts are discarded in LINE-OFF: the lead's RELEASE of the run key, and at any other station or key what was owed before (03 R65, R69). -/
def releaseKept (s t : State) (c : CurrentCue) : Prop :=
  t.cue.owedRelease = if givesBack s c then some c.runKey else s.cue.owedRelease

/-- The station's own post spoiled below the limits becomes the retry post and the counts rise; at a transmit spoil count of 8 the line interface enters LINE-OFF: queue and slot emptied, timer started, the armed cue dropped or the run cut, the RELEASE of a lead's drop kept as owed, the cue queue flushed, a sync attempt abandoned with its failed count left and a rest left to run on, wait list and answer emptied (07 R141 to R144; 03 R65, R69; 02 R30, R34; 06 R128). -/
def Obligations.SpoiledPostIsRetriedUpToLineOff : Prop :=
  (∀ (finding : Option SpoilCause) (r : OutRef) (s : State), Calm s → s.line.state = .on →
     s.line.onLine = some (.own r) → s.line.txSpoil + 1 < 8 → s.line.rxSpoil + 1 < 8 →
     ∃ t, exec (.postSpoiled finding) s = .next t ∧ t.line.retry = some r ∧ t.line.onLine = none
       ∧ t.line.txSpoil = s.line.txSpoil + 1
       ∧ t.line.rxSpoil = (match finding with
           | none | some .readBack => s.line.rxSpoil
           | some _ => s.line.rxSpoil + 1)
       ∧ t.line.queue = s.line.queue ∧ t.line.slot = s.line.slot ∧ FrameBut [.line] s t)
  ∧ (∀ (finding : Option SpoilCause) (r : OutRef) (s : State), Calm s → s.line.state = .on →
     s.line.onLine = some (.own r) → s.line.txSpoil + 1 = 8 → (finding = none ∨ finding = some .readBack) →
     ∃ t, exec (.postSpoiled finding) s = .next t ∧ t.line.state = .lineOff ∧ t.line.queue = []
       ∧ t.line.slot = none ∧ t.line.offTimer = some 250 ∧ t.cue.queue = [] ∧ t.cue.current = none
       ∧ t.sync.waitList = [] ∧ t.sync.answer = none ∧ t.roster.presenceTimer = none ∧ t.reg = s.reg
       ∧ (∀ c, s.cue.current = some c → c.phase = .armed → s.axis.state = .armed →
           t.axis.state = s.axis.origin.getD .parked)
       ∧ (∀ c, s.cue.current = some c → c.phase = .armed → releaseKept s t c)
       ∧ ((∀ c, s.cue.current = some c → c.phase = .running) → t.cue.owedRelease = s.cue.owedRelease)
       ∧ (s.sync.phase = .idle ∨ s.sync.phase = .resting → t.sync = { s.sync with waitList := [], answer := none })
       ∧ (s.sync.phase = .posting ∨ s.sync.phase = .awaiting ∨ s.sync.phase = .copying →
           t.sync = { s.sync with
             waitList := [], answer := none, phase := .idle, changes := [], attemptTimer := none })
       ∧ FrameBut [.sync, .cue, .engine, .axis, .roster, .line, .store] s t
       ∧ (∀ c, s.cue.current = some c → c.phase = .running → s.axis.state = .flying →
           t.axis.state = .stopping ∧ t.axis.demand = s.engine.demand ∧ t.axis.ramp = some s.engine.planned
             ∧ t.cue.held = some ⟨c.runKey, c.box⟩))

/-- At a receive spoil count of 8 the line interface enters DEAF: nothing more is sent or taken, the register becomes STALE with its table kept, and the axis latches DEAF in FAULTED (07 R145; 01 R23; 05 R111). -/
def Obligations.EighthBadPostEntersDeaf : Prop :=
  ∀ (finding : Option SpoilCause) (s : State), Receives s → s.line.onLine = some .other →
    s.line.rxSpoil + 1 = 8 → finding ≠ none → finding ≠ some .readBack → s.axis.state ≠ .unconfigured →
    ∃ t, exec (.postSpoiled finding) s = .next t ∧ t.line.state = .deaf ∧ t.line.queue = [] ∧ t.line.slot = none
      ∧ t.reg = { s.reg with state := .stale } ∧ t.axis.state = .faulted ∧ t.axis.faults.deaf = true
      ∧ t.sync.waitList = [] ∧ t.roster.presenceTimer = none ∧ t.cue.owed = []
      ∧ (s.axis.state ≠ .faulted → t.cue.queue = [] ∧ t.cue.current = none ∧ t.axis.brake = .set)
      ∧ FrameBut [.reg, .sync, .cue, .engine, .axis, .roster, .line] s t

/-- An owed RELEASE still applies while the register holds its key; an owed CUT or DONE always does (03 R70). -/
def stillOwed (s : State) (o : OwedPost) : Bool :=
  match o.post with
  | .release k => s.reg.table.any (fun e => e.key == k)
  | _ => true

/-- NOTICE, VERIFIED and a post that is not fitting are taken by the roster alone: the sender is present with 120 ms of lapse time. The station's own post leaves the queue or the slot and clears the transmit spoil count; one of its number that it did not send changes neither. At its own NOTICE's delivery every owed post becomes none, and those that still apply are enqueued again in order (03 R70; 06 R121; 07 R138, R140, R142, R147; 08 R154, R161, R162). How the station knows its own post, and which deliveries send owed posts again: log entries 9 and 14. -/
def Obligations.RosterAloneTakes : Prop :=
  (∀ (n : Fin 48) (i : Instr) (s : State), Receives s →
    ((∃ raw, i = .unfittingPost n raw) ∨ (∃ x, i = .notice n x) ∨ (∃ a b c, i = .verified n a b c)) →
    ∃ t, exec i s = .next t ∧ (t.roster.entry n.val).present = true ∧ (t.roster.entry n.val).lapse = some 120
      ∧ (∀ m, m ≠ n.val → t.roster.entry m = s.roster.entry m) ∧ t.line.rxSpoil = 0 ∧ t.line.onLine = none
      ∧ (n.val ≠ s.strap ∨ s.line.onLine = some .other →
          t.line.queue = s.line.queue ∧ t.line.slot = s.line.slot ∧ t.line.txSpoil = s.line.txSpoil
            ∧ t.line.retry = s.line.retry)
      ∧ (∀ a, n.val = s.strap → s.line.onLine = some (.own (.queued a)) →
          t.line.queue = s.line.queue.eraseP (fun o => o.age == a) ∧ t.line.slot = s.line.slot ∧ t.line.txSpoil = 0
            ∧ (s.line.retry = some (.queued a) → t.line.retry = none))
      ∧ (n.val = s.strap → s.line.onLine = some (.own .slot) →
          t.line.queue = s.line.queue ∧ t.line.txSpoil = 0 ∧ t.line.further = false
            ∧ t.line.slot = (if s.line.further then some ⟨s.line.nextAge, none⟩ else none)
            ∧ (s.line.retry = some .slot → t.line.retry = none))
      ∧ FrameBut [.roster, .line] s t)
  ∧ (∀ (n : Fin 48) (x : Notice) (a : Nat) (s : State), s.power = .running → s.line.reports = [] →
      AgesBelow s.line → s.line.state = .on → n.val = s.strap → s.line.onLine = some (.own (.queued a)) →
      s.line.queue.length + s.cue.owed.length ≤ 8 →
    ((∀ o ∈ s.cue.owed, (∃ f g m st r, o.post = .cut f g m st r) ∨ (∃ f g m, o.post = .done f g m)
        ∨ ∃ k, o.post = .release k) →
      ∃ t, exec (.notice n x) s = .next t ∧ t.cue.owed = []
        ∧ newPosts s t = (s.cue.owed.filter (stillOwed s)).map (·.post) ∧ FrameBut [.cue, .roster, .line] s t)
    ∧ (∀ k b u, s.cue.owed = [⟨.claim k b, u⟩] → (∀ o ∈ s.line.queue, ∀ k b, o.post ≠ .claim k b) →
        (∃ c, s.cue.current = some c ∧ c.phase = .armed ∧ c.runKey = k) →
      ∃ t, exec (.notice n x) s = .next t ∧ t.cue.owed = []
        ∧ newPosts s t = (if hasEntry s.reg.table k b = true then [] else [.claim k b])
        ∧ FrameBut [.cue, .roster, .line] s t))

/-! ### Stops -/

/-- A HALT for the station's flyer or for ALL ends the current cue, empties the queue and, for ALL, sets the show-stop latch; one for another flyer does nothing beyond the roster. CLEAR-STOP clears the latch and withdraws the watch's HALT. A station in LINE-OFF does the same, with every post discarded and a lead's RELEASE kept as owed (03 R65, R67 to R69; 06 R131; 07 R134, R143). -/
def Obligations.HaltStopsAndClearStopClears : Prop :=
  (∀ (n : Fin 48) (scope reason : Nat) (s : State), Receives s → s.axis.state ≠ .unconfigured →
     ((1 ≤ scope ∧ scope ≤ 15 ∧ scope = s.flyer) ∨ scope = 255 →
       ∃ t, exec (.halt n scope reason) s = .next t ∧ t.cue.current = none ∧ t.cue.queue = []
         ∧ t.cue.showStop = (if scope = 255 then true else s.cue.showStop)
         ∧ (s.cue.queue ≠ [] →
             alsoPosted s t (.notice ⟨15, s.strap, s.flyer, none, s.cue.queue.length⟩))
         ∧ (∀ c, s.cue.current = some c → c.phase = .armed → s.axis.state = .armed →
             t.axis.state = s.axis.origin.getD .parked ∧ alsoPosted s t (.cut s.flyer c.segment c.reps 0 0))
         ∧ (∀ c, s.cue.current = some c → c.phase = .armed → s.line.state = .lineOff → releaseKept s t c)
         ∧ (∀ c, s.cue.current = some c → c.phase = .running → s.axis.state = .flying →
             t.axis.state = .stopping ∧ t.axis.demand = s.engine.demand ∧ t.axis.ramp = some s.engine.planned
               ∧ t.engine.state = .idle ∧ t.cue.held = some ⟨c.runKey, c.box⟩
               ∧ alsoPosted s t (.cut s.flyer c.segment s.engine.remaining s.engine.stepIndex 0))
         ∧ (s.cue.current = none → t.axis = s.axis ∧ t.engine = s.engine)
         ∧ FrameBut [.cue, .engine, .axis, .roster, .line, .store] s t)
     ∧ (scope ≠ s.flyer → scope ≠ 255 →
       ∃ t, exec (.halt n scope reason) s = .next t ∧ FrameBut [.roster, .line] s t))
  ∧ (∀ (n : Fin 48) (s : State), Receives s →
     ∃ t, exec (.clearStop n) s = .next t ∧ CueUnit.sameBut { s.cue with showStop := false } t.cue
       ∧ Post.halt 255 5 ∉ t.line.queue.map (·.post) ∧ FrameBut [.cue, .roster, .line] s t)

/-! ### The start of a run -/

/-- The engine at the begin of a segment: cursor, direction, steps left, step timer and target by its mode, demand 0 and the measured haul as planned haul (04 R78, R83). -/
def engineBegun (s : State) (c : CurrentCue) (e : Engine) : Prop :=
  let ws := s.store.working.words
  let g := segmentOf ws c.segment
  e.state = .playing ∧ e.remaining = c.reps ∧ e.stepIndex = 0 ∧ e.demand = 0
    ∧ e.planned = s.axis.inputs.haul * 1000000 ∧ e.stepTimer = 10 * g.stepTen
    ∧ (g.mode = some .once → e.row = g.row ∧ e.col = g.first ∧ e.dir = .forward ∧ e.stepsLeft = g.lo2
        ∧ e.target = speedAt ws g.row g.first ∧ e.play = some ⟨.once, g.row, g.first, g.lo2, 0, 10 * g.stepTen⟩)
    ∧ (g.mode = some .back → 32 * e.row + e.col = 32 * g.row + g.first + g.lo2 - 1 ∧ e.col < 32 ∧ e.dir = .back
        ∧ e.stepsLeft = g.lo2 ∧ e.target = -(speedAt ws e.row e.col)
        ∧ e.play = some ⟨.back, g.row, g.first, g.lo2, 0, 10 * g.stepTen⟩)
    ∧ (g.mode = some .swing → e.row = g.row ∧ e.col = g.first ∧ e.dir = .forward ∧ e.stepsLeft = g.hi2
        ∧ e.target = speedAt ws g.row g.first
        ∧ e.play = some ⟨.swing, g.row, g.first, g.hi2, g.lo2, 10 * g.stepTen⟩)

/-- What the start of the run of cue `c` leaves in every block but the register (03 R59; 05 R100; 06 R130; 09 R176). -/
def runStarted (s t : State) (c : CurrentCue) : Prop :=
  t.cue.current = some { c with phase := .running } ∧ t.cue.slots.length = s.cue.slots.length
    ∧ (∀ x ∈ t.cue.slots, x = none) ∧ t.cue.readyWait = none ∧ t.cue.spaceWait = none ∧ t.cue.held = s.cue.held
    ∧ t.cue.queue = s.cue.queue ∧ t.axis.state = .flying ∧ t.axis.brake = .released ∧ t.axis.demand = 0
    ∧ t.axis.origin = none ∧ (s.axis.brake = .set → t.axis.brakeTimer = some 200) ∧ engineBegun s c t.engine
    ∧ t.store.aloft.target = .set s.flyer (Word.ofBytes c.runKey.flyer c.runKey.tag)
        (Word.ofBytes c.box.x0 c.box.x1) (Word.ofBytes c.box.y0 c.box.y1) (Word.ofBytes c.box.z0 c.box.z1)
    ∧ t.roster.skewReported = false ∧ t.line.slot.isSome = true
    ∧ newPosts s t = (match s.cue.held with
        | some h => if s.isLead = true ∧ h.key ≠ c.runKey then [.release h.key] else []
        | none => [])

/-- The station is set lead with the cue `c` armed. -/
def leadArmed (s : State) (c : CurrentCue) : Prop :=
  s.isLead = true ∧ s.cue.current = some c ∧ c.phase = .armed

/-- The set lead stands where it owes a re-claim of the held claim `h` (03 R74). -/
def reclaimOwed (s : State) (h : Held) : Prop :=
  s.isLead = true ∧ (s.axis.state = .poised ∨ s.axis.state = .holding ∨ s.axis.state = .recovery)
    ∧ s.reg.state = .current ∧ s.cue.held = some h ∧ hasKey s.reg.table h.key = false

/-- No CLAIM stands in the outgoing queue. -/
def noClaimQueued (s : State) : Prop := ∀ o ∈ s.line.queue, ∀ k b, o.post ≠ .claim k b

/-! ### The airspace register -/

/-- A CLAIM outside a copy is evaluated against the table at its delivery. Then the cue unit acts: the set lead's own CLAIM refused starts the space wait of its armed cue, once; a refused re-claim is remembered as refused; and a CLAIM that completes the start condition starts the run (01 R7, R8, R12; 03 R58, R62, R74). The re-claim's four states are the model's: log entry 20. -/
def Obligations.ClaimIsEvaluated : Prop :=
  (∀ (n : Fin 48) (k : Key) (b : Box) (s : State), Receives s → s.sync.phase ≠ .copying →
    ∃ t, exec (.claim n k b) s = .next t ∧ t.reg = AirRegister.claim s.reg k b
      ∧ FrameBut [.reg, .cue, .engine, .axis, .roster, .line, .store] s t
      ∧ (s.cue.current = none → FrameBut [.reg, .roster, .line] s t))
  ∧ (∀ (n : Fin 48) (c : CurrentCue) (b : Box) (s : State), CalmOn s → s.sync.phase ≠ .copying → leadArmed s c →
      n.val = s.strap → startCondition s = false → (claimVerdict s.reg.zones s.reg.table c.runKey b).refused = true →
    (c.spaceBegun = false →
      ∃ t, exec (.claim n c.runKey b) s = .next t ∧ t.cue.current = some { c with spaceBegun := true }
        ∧ t.cue.spaceWait = some 10000 ∧ t.reg = s.reg ∧ newPosts s t = [] ∧ FrameBut [.cue, .roster, .line] s t)
    ∧ (c.spaceBegun = true →
      ∃ t, exec (.claim n c.runKey b) s = .next t ∧ t.cue.current = some c ∧ t.cue.spaceWait = s.cue.spaceWait
        ∧ newPosts s t = [] ∧ FrameBut [.cue, .roster, .line] s t))
  ∧ (∀ (n : Fin 48) (h : Held) (b : Box) (s : State), CalmOn s → s.sync.phase ≠ .copying → s.cue.current = none →
      reclaimOwed s h → s.cue.reclaim = .posted → n.val = s.strap →
      (claimVerdict s.reg.zones s.reg.table h.key b).refused = true →
    ∃ t, exec (.claim n h.key b) s = .next t ∧ t.cue.reclaim = .refused ∧ t.cue.held = s.cue.held
      ∧ newPosts s t = [] ∧ FrameBut [.cue, .roster, .line] s t)
  ∧ (∀ (n : Fin 48) (c : CurrentCue) (s : State), CalmOn s → s.sync.phase ≠ .copying → s.cue.current = some c →
      c.phase = .armed → s.axis.state = .armed → (∀ x ∈ s.cue.slots, x = some (c.showNo, c.segment)) →
      (claimVerdict s.reg.zones s.reg.table c.runKey c.box).refused = false →
    ∃ t, exec (.claim n c.runKey c.box) s = .next t ∧ runStarted s t c
      ∧ t.reg = AirRegister.claim s.reg c.runKey c.box
      ∧ FrameBut [.reg, .cue, .axis, .engine, .roster, .line, .store] s t)

/-- A well-formed new claim, whose key is absent from the table, is refused with FULL in a table of 24 entries and otherwise with LIMIT where its flyer holds 4; neither refusal changes table or generation, and a claim that passes both goes on to the conflict test (01 R10). -/
def Obligations.NewClaimLimits : Prop :=
  ∀ (r : AirRegister) (k : Key) (b : Box), findEntry r.table k = none → Key.wf k = true → Box.wf b = true →
    (24 ≤ r.table.length → claimVerdict r.zones r.table k b = .full)
    ∧ (r.table.length < 24 → 4 ≤ countOf r.table k.flyer → claimVerdict r.zones r.table k b = .limit)
    ∧ (claimVerdict r.zones r.table k b = .full ∨ claimVerdict r.zones r.table k b = .limit →
        AirRegister.claim r k b = r)
    ∧ (r.table.length < 24 → countOf r.table k.flyer < 4 →
        claimVerdict r.zones r.table k b
          = if zoneConflict r.zones k.flyer b then .zone
            else if entryConflict r.table k.flyer b then .overlap
            else .appended)

/-- A claim is malformed where its flyer, tag or box is out of range, and is refused with BAD_BOX even where its key stands in the table; a well-formed claim whose key stands in the table is a resize, decided by zones, other flyers' entries and identity of the box; any other is a new claim, decided by the limits and then by clearness; and each verdict's effect on table and generation (01 R8 to R12, R16). -/
def Obligations.ClaimVerdictEffects : Prop :=
  ∀ (r : AirRegister) (k : Key) (b : Box),
    (Key.wf k = false ↔ k.flyer < 1 ∨ 15 < k.flyer ∨ 7 < k.tag)
    ∧ (Box.wf b = false ↔ b.x1 < b.x0 ∨ 63 < b.x1 ∨ b.y1 < b.y0 ∨ 63 < b.y1 ∨ b.z1 < b.z0 ∨ 31 < b.z1)
    ∧ ((Key.wf k = false ∨ Box.wf b = false) →
      claimVerdict r.zones r.table k b = .badBox ∧ AirRegister.claim r k b = r)
    ∧ (∀ e, Key.wf k = true → Box.wf b = true → findEntry r.table k = some e →
        claimVerdict r.zones r.table k b
          = if zoneConflict r.zones k.flyer b then .zone
            else if entryConflict r.table k.flyer b then .overlap
            else if e.box = b then .unchanged
            else .resized)
    ∧ (Key.wf k = true → Box.wf b = true → findEntry r.table k = none →
        claimVerdict r.zones r.table k b
          = if 24 ≤ r.table.length then .full
            else if 4 ≤ countOf r.table k.flyer then .limit
            else if zoneConflict r.zones k.flyer b then .zone
            else if entryConflict r.table k.flyer b then .overlap
            else .appended)
    ∧ (claimVerdict r.zones r.table k b = .appended →
        (AirRegister.claim r k b).table = r.table ++ [⟨k, b⟩]
          ∧ (AirRegister.claim r k b).generation = r.generation + 1)
    ∧ (claimVerdict r.zones r.table k b = .resized →
        (AirRegister.claim r k b).table.length = r.table.length
          ∧ (AirRegister.claim r k b).table.map (·.key) = r.table.map (·.key)
          ∧ findEntry (AirRegister.claim r k b).table k = some ⟨k, b⟩
          ∧ (AirRegister.claim r k b).generation = r.generation + 1)
    ∧ (claimVerdict r.zones r.table k b ≠ .appended → claimVerdict r.zones r.table k b ≠ .resized →
        AirRegister.claim r k b = r)

/-- The separation law: claims and releases keep entries of different flyers apart, and a granted box overlaps no zone that bars its flyer (01 R6). -/
def Obligations.SeparationKept : Prop :=
  ∀ (r : AirRegister) (k : Key) (b : Box), Separated r.table →
    Separated (AirRegister.claim r k b).table ∧ Separated (AirRegister.release r k).table
      ∧ ((claimVerdict r.zones r.table k b = .appended ∨ claimVerdict r.zones r.table k b = .resized) →
          ∀ z ∈ r.zones, Zone.bars z k.flyer = true → Box.overlaps b z.box = false)

/-- A RELEASE outside a copy removes the entry with its key and raises the generation, or is ABSENT and changes nothing in the register. Then the cue unit acts: the removal of the run key's entry cuts the run with reason CLAIM_LOST, and starts the space wait of the set lead's armed cue, once; the held key is cleared where a cue runs under another; while the space wait runs, and after a refused re-claim, the lead posts its CLAIM again unless one stands in its queue; and the start condition is tested (01 R14, R16; 03 R58, R62, R72 to R74). A held key equal to the run key is cleared before the cut sets it: log entry 23. The re-claim's four states are the model's: log entry 20. -/
def Obligations.ReleaseRemovesEntryAndCutsRun : Prop :=
  (∀ (n : Fin 48) (k : Key) (s : State), Receives s → s.sync.phase ≠ .copying →
     ∃ t, exec (.release n k) s = .next t ∧ t.reg.zones = s.reg.zones ∧ t.reg.state = s.reg.state
       ∧ ((∃ e ∈ s.reg.table, e.key = k) →
           t.reg.table = s.reg.table.eraseP (fun e => e.key == k) ∧ t.reg.generation = s.reg.generation + 1)
       ∧ ((∀ e ∈ s.reg.table, e.key ≠ k) → t.reg = s.reg)
       ∧ FrameBut [.reg, .cue, .engine, .axis, .roster, .line, .store] s t
       ∧ (s.cue.current = none → FrameBut [.reg, .roster, .line] s t))
  ∧ (∀ (n : Fin 48) (c : CurrentCue) (s : State), CalmOn s → s.sync.phase ≠ .copying →
     s.cue.current = some c → c.phase = .running → s.axis.state = .flying → hasKey s.reg.table c.runKey = true →
     ∃ t, exec (.release n c.runKey) s = .next t ∧ t.axis.state = .stopping ∧ t.axis.demand = s.engine.demand
       ∧ t.axis.ramp = some s.engine.planned ∧ t.axis.brake = s.axis.brake ∧ t.engine.state = .idle
       ∧ t.cue.current = none ∧ t.cue.held = some ⟨c.runKey, c.box⟩ ∧ t.cue.queue = s.cue.queue
       ∧ Post.cut s.flyer c.segment s.engine.remaining s.engine.stepIndex 5 ∈ newPosts s t)
  ∧ (∀ (n : Fin 48) (c : CurrentCue) (h : Held) (s : State), CalmOn s → s.sync.phase ≠ .copying →
     s.cue.current = some c → c.phase = .running → s.cue.held = some h → h.key ≠ c.runKey →
     ∃ t, exec (.release n h.key) s = .next t ∧ t.cue.held = none ∧ t.cue.current = some c ∧ newPosts s t = []
       ∧ t.axis = s.axis ∧ t.engine = s.engine ∧ FrameBut [.reg, .cue, .roster, .line] s t)
  ∧ (∀ (n : Fin 48) (c : CurrentCue) (s : State), CalmOn s → s.sync.phase ≠ .copying → leadArmed s c →
     s.axis.state = .armed →
     (c.spaceBegun = false → hasKey s.reg.table c.runKey = true →
         hasEntry (s.reg.table.eraseP (fun e => e.key == c.runKey)) c.runKey c.box = false → noClaimQueued s →
       ∃ t, exec (.release n c.runKey) s = .next t ∧ t.cue.current = some { c with spaceBegun := true }
         ∧ t.cue.spaceWait = some 10000 ∧ newPosts s t = [.claim c.runKey c.box]
         ∧ FrameBut [.reg, .cue, .roster, .line] s t)
     ∧ (∀ k x, s.cue.spaceWait = some x → k ≠ c.runKey → hasEntry s.reg.table c.runKey c.box = false →
       (noClaimQueued s →
         ∃ t, exec (.release n k) s = .next t ∧ t.cue.current = some c ∧ t.cue.spaceWait = some x
           ∧ newPosts s t = [.claim c.runKey c.box] ∧ FrameBut [.reg, .cue, .roster, .line] s t)
       ∧ (n.val ≠ s.strap → (∃ o ∈ s.line.queue, ∃ k b, o.post = .claim k b) →
         ∃ t, exec (.release n k) s = .next t ∧ t.cue.current = some c ∧ t.cue.spaceWait = some x
           ∧ newPosts s t = [] ∧ FrameBut [.reg, .cue, .roster, .line] s t))
     ∧ (∀ k, s.cue.spaceWait = none → k ≠ c.runKey → startCondition s = false →
       ∃ t, exec (.release n k) s = .next t ∧ t.cue.current = some c ∧ newPosts s t = []
         ∧ FrameBut [.reg, .roster, .line] s t))
  ∧ (∀ (n : Fin 48) (k : Key) (h : Held) (s : State), CalmOn s → s.sync.phase ≠ .copying → s.cue.current = none →
     reclaimOwed s h → s.cue.reclaim = .refused →
     (noClaimQueued s →
       ∃ t, exec (.release n k) s = .next t ∧ newPosts s t = [.claim h.key h.box] ∧ t.cue.held = some h
         ∧ FrameBut [.reg, .roster, .line] s t)
     ∧ (n.val ≠ s.strap → (∃ o ∈ s.line.queue, ∃ k b, o.post = .claim k b) →
       ∃ t, exec (.release n k) s = .next t ∧ newPosts s t = [] ∧ FrameBut [.reg, .roster, .line] s t))
  ∧ (∀ (n : Fin 48) (k : Key) (c : CurrentCue) (s : State), CalmOn s → s.sync.phase ≠ .copying →
     s.cue.current = some c → startCondition s = true → s.axis.state = .armed → k ≠ c.runKey →
     ∃ t, exec (.release n k) s = .next t ∧ runStarted s t c
       ∧ FrameBut [.reg, .cue, .axis, .engine, .roster, .line, .store] s t)

/-! ### The sync protocol -/

/-- While COPYING each CLAIM and RELEASE joins the pending change list with its full contents and reaches neither the table nor the cue unit; where the list holds 8 posts already, the attempt fails, the list is emptied without being applied, and the post itself is evaluated against the table as it then stands (02 R37). The failure's choice may have emptied that table (02 R27, R39); that it comes before the evaluation is the model's order: log entry 34. -/
def Obligations.CopyingHoldsChanges : Prop :=
  ∀ (n : Fin 48) (k : Key) (b : Box) (s : State), Receives s → s.sync.phase = .copying →
    (s.sync.changes.length < 8 →
      (∃ t, exec (.claim n k b) s = .next t ∧ t.sync = { s.sync with changes := s.sync.changes ++ [.claim n.val k b] }
        ∧ FrameBut [.sync, .roster, .line] s t)
      ∧ (∃ t, exec (.release n k) s = .next t
        ∧ t.sync = { s.sync with changes := s.sync.changes ++ [.release n.val k] }
        ∧ FrameBut [.sync, .roster, .line] s t))
    ∧ (8 ≤ s.sync.changes.length →
      (∃ t r, exec (.claim n k b) s = .next t ∧ t.sync.phase ≠ .copying ∧ t.sync.changes = []
        ∧ (r.table = s.reg.table ∧ r.generation = s.reg.generation ∨ r.table = [] ∧ r.generation = 0)
        ∧ r.zones = s.reg.zones ∧ t.reg = AirRegister.claim r k b
        ∧ FrameBut [.reg, .sync, .cue, .engine, .axis, .roster, .line, .store] s t)
      ∧ (∃ t r, exec (.release n k) s = .next t ∧ t.sync.phase ≠ .copying ∧ t.sync.changes = []
        ∧ (r.table = s.reg.table ∧ r.generation = s.reg.generation ∨ r.table = [] ∧ r.generation = 0)
        ∧ r.zones = s.reg.zones ∧ t.reg = AirRegister.release r k
        ∧ FrameBut [.reg, .sync, .cue, .engine, .axis, .roster, .line, .store] s t))

/-- A SYNC naming a CURRENT responder that is ON enters its wait list and is served at once where the list was empty; otherwise it is ignored: by a station it does not name, one not CURRENT or in LINE-OFF, and where its requester is the station itself, lies above 31, waits already or would be a fifth; at its own SYNC a requester awaits the answer for 1 s (02 R30, R31). -/
def Obligations.SyncIsAnswered : Prop :=
  ∀ (n : Fin 48) (q r : Nat) (s : State), Receives s →
    (s.line.state = .on → r = s.strap → s.reg.state = .current → q ≠ s.strap → q ≤ 31 → q ∉ s.sync.waitList →
        s.sync.waitList.length < 4 →
      ∃ t, exec (.sync n q r) s = .next t ∧ t.sync.waitList = s.sync.waitList ++ [q]
        ∧ (s.sync.waitList = [] → t.sync.answer = some ⟨none⟩ ∧ newPosts s t = [.tableStart q 0 0])
        ∧ (s.sync.waitList ≠ [] → t.sync.answer = s.sync.answer ∧ newPosts s t = [])
        ∧ FrameBut [.sync, .roster, .line] s t)
    ∧ (n.val ≠ s.strap ∨ q ≠ s.strap ∨ s.sync.phase ≠ .posting →
        r ≠ s.strap ∨ s.reg.state ≠ .current ∨ s.line.state = .lineOff ∨ q = s.strap ∨ 31 < q
          ∨ q ∈ s.sync.waitList ∨ 4 ≤ s.sync.waitList.length →
      ∃ t, exec (.sync n q r) s = .next t ∧ newPosts s t = [] ∧ FrameBut [.roster, .line] s t)
    ∧ (n.val = s.strap → q = s.strap → s.sync.phase = .posting →
      ∃ t, exec (.sync n q r) s = .next t
        ∧ t.sync = { s.sync with phase := .awaiting, attemptTimer := some 1000 } ∧ FrameBut [.sync, .roster, .line] s t)

/-- A TABLE-START accepted by the requester empties the table, takes the generation and begins copying; one with a count above 24 is passed over; at its own TABLE-START the responder enqueues the first entry or the end (02 R33, R35; 08 R157). -/
def Obligations.TableStartBeginsCopy : Prop :=
  ∀ (n : Fin 48) (q c : Nat) (g : Word) (s : State), CalmOn s →
    (n.val ≠ s.strap → q = s.strap → s.sync.responder = some n.val → s.sync.phase = .awaiting → c ≤ 24 →
      ∃ t, exec (.tableStart n q g c) s = .next t ∧ t.reg = { s.reg with table := [], generation := g }
        ∧ t.sync = { s.sync with phase := .copying, expected := c, received := 0, changes := [] }
        ∧ FrameBut [.reg, .sync, .roster, .line] s t)
    ∧ (n.val ≠ s.strap → (q ≠ s.strap ∨ s.sync.responder ≠ some n.val ∨ s.sync.phase ≠ .awaiting ∨ 24 < c) →
      ∃ t, exec (.tableStart n q g c) s = .next t ∧ FrameBut [.roster, .line] s t)
    ∧ (∀ snap, n.val = s.strap → q ≠ s.strap → s.sync.answer = some ⟨some snap⟩ → s.sync.waitList.head? = some q →
      ∃ t, exec (.tableStart n q g c) s = .next t
        ∧ newPosts s t = [match snap.entries with
            | [] => .tableEnd q 0
            | e :: _ => .tableEntry q 0 e.key e.box]
        ∧ FrameBut [.roster, .line] s t)

/-- A TABLE-ENTRY in order and well formed joins the copied table without the claim tests; one from the responder that is out of order, beyond the expected count or of a malformed key or box fails the attempt; one from another sender, for another requester or in another phase is ignored; at its own entry `i` the responder enqueues entry `i + 1` or the end (08 R157; 02 R33, R36, R39). -/
def Obligations.TableEntryIsCopied : Prop :=
  ∀ (n : Fin 48) (q i : Nat) (k : Key) (b : Box) (s : State), CalmOn s →
    (n.val ≠ s.strap → q = s.strap → s.sync.responder = some n.val → s.sync.phase = .copying →
      (i = s.sync.received → s.sync.received < s.sync.expected → Key.wf k = true → Box.wf b = true →
        ∃ t, exec (.tableEntry n q i k b) s = .next t
          ∧ t.reg = { s.reg with table := s.reg.table ++ [⟨k, b⟩] }
          ∧ t.sync = { s.sync with received := s.sync.received + 1 } ∧ FrameBut [.reg, .sync, .roster, .line] s t)
      ∧ ((i ≠ s.sync.received ∨ s.sync.expected ≤ s.sync.received ∨ Key.wf k = false ∨ Box.wf b = false) →
        ∃ t, exec (.tableEntry n q i k b) s = .next t ∧ t.sync.phase ≠ .copying ∧ t.sync.changes = []
          ∧ t.sync.attemptTimer = none ∧ FrameBut [.reg, .sync, .roster, .line] s t))
    ∧ (n.val ≠ s.strap → (q ≠ s.strap ∨ s.sync.responder ≠ some n.val ∨ s.sync.phase ≠ .copying) →
      ∃ t, exec (.tableEntry n q i k b) s = .next t ∧ newPosts s t = [] ∧ FrameBut [.roster, .line] s t)
    ∧ (∀ snap, n.val = s.strap → q ≠ s.strap → s.sync.answer = some ⟨some snap⟩ → s.sync.waitList.head? = some q →
      ∃ t, exec (.tableEntry n q i k b) s = .next t
        ∧ newPosts s t = [match snap.entries[i + 1]? with
            | some e => .tableEntry q (i + 1) e.key e.box
            | none => .tableEnd q snap.entries.length]
        ∧ FrameBut [.roster, .line] s t)

/-- The register after the pending changes, in list order (02 R38). -/
def registerAfter (r : AirRegister) (cs : List Change) : AirRegister :=
  cs.foldl (fun r c => match c with
    | .claim _ k b => AirRegister.claim r k b
    | .release _ k => AirRegister.release r k) r

/-- A TABLE-END whose count fits ends the copy: the pending changes are applied in order and the register becomes CURRENT; one that does not fit fails the attempt; one from another sender, for another requester or in another phase is ignored; the responder's own TABLE-END takes its requester off the wait list, and the next requester there is served with a TABLE-START (02 R33, R38, R39). -/
def Obligations.TableEndMakesCurrent : Prop :=
  ∀ (n : Fin 48) (q c : Nat) (s : State), CalmOn s →
    (n.val ≠ s.strap → q = s.strap → s.sync.responder = some n.val → s.sync.phase = .copying →
      s.reg.state = .syncing → s.cue.current = none →
      (c = s.sync.expected → c = s.sync.received →
        ∃ t, exec (.tableEnd n q c) s = .next t
          ∧ t.reg = { registerAfter s.reg s.sync.changes with state := .current }
          ∧ t.sync.phase = .idle ∧ t.sync.changes = [] ∧ t.sync.failed = 0 ∧ t.sync.attemptTimer = none
          ∧ t.sync.beenCurrent = true ∧ FrameBut [.reg, .sync, .roster, .line] s t)
      ∧ ((c ≠ s.sync.expected ∨ c ≠ s.sync.received) →
        ∃ t, exec (.tableEnd n q c) s = .next t ∧ t.sync.phase ≠ .copying ∧ t.sync.changes = []
          ∧ t.sync.attemptTimer = none ∧ FrameBut [.reg, .sync, .roster, .line] s t))
    ∧ (∀ a, n.val = s.strap → q ≠ s.strap → s.sync.answer = some a → s.sync.waitList.head? = some q →
      (s.sync.waitList.tail = [] →
        ∃ t, exec (.tableEnd n q c) s = .next t ∧ t.sync = { s.sync with waitList := [], answer := none }
          ∧ newPosts s t = [] ∧ FrameBut [.sync, .roster, .line] s t)
      ∧ (∀ q' waiting, s.sync.waitList.tail = q' :: waiting →
        ∃ t, exec (.tableEnd n q c) s = .next t
          ∧ t.sync = { s.sync with waitList := q' :: waiting, answer := some ⟨none⟩ }
          ∧ newPosts s t = [.tableStart q' 0 0] ∧ FrameBut [.sync, .roster, .line] s t))
    ∧ (n.val ≠ s.strap → (q ≠ s.strap ∨ s.sync.responder ≠ some n.val ∨ s.sync.phase ≠ .copying) →
      ∃ t, exec (.tableEnd n q c) s = .next t ∧ newPosts s t = [] ∧ FrameBut [.roster, .line] s t)

/-- Winch peer `m` reports CURRENT (02 R27). -/
def reportsCurrent (s : State) (m : Nat) : Prop :=
  m < 32 ∧ m ≠ s.strap ∧ (s.roster.entry m).present = true ∧ (s.roster.entry m).seen = true
    ∧ (s.roster.entry m).reg = some .current

/-- The responder of the next attempt after `last`: the lowest peer reporting CURRENT above it, else the lowest of all (02 R28). -/
def nextAsked (s : State) (last : Option Nat) (r : Nat) : Prop :=
  reportsCurrent s r
    ∧ ((∃ p, last = some p ∧ p < r ∧ ∀ m, reportsCurrent s m → p < m → r ≤ m)
        ∨ ((∀ p, last = some p → ∀ m, reportsCurrent s m → m ≤ p) ∧ ∀ m, reportsCurrent s m → r ≤ m))

/-- An attempt has begun with responder `r` and nothing else of the protocol but the failed count has changed (02 R30). -/
def attemptBegun (s t : State) (r failed : Nat) : Prop :=
  t.sync.phase = .posting ∧ t.sync.responder = some r ∧ t.sync.failed = failed ∧ t.reg = s.reg
    ∧ newPosts s t = [.sync s.strap r] ∧ FrameBut [.sync, .line] s t

/-- The sync timers: an empty alone window starts the rig alone, and one in which a winch PRESENCE was seen makes the choice; a failed attempt is followed by the choice, which posts SYNC to the next peer reporting CURRENT above the last responder, or rests for 5 s with SYNC_FAILED after three; and a round begins anew with the lowest such peer at the retry's expiry. Where no peer reports CURRENT, the station of the lowest number present starts the rig alone and another waits (02 R27 to R30, R39). The timers hold what they were loaded with: log entry 3. -/
def Obligations.SyncTimersExpire : Prop :=
  ∀ s : State, CalmOn s →
    (s.sync.alone = .running → s.reg.state = .syncing →
      (s.sync.winchSeen = false →
        ∃ t, exec .aloneWindowExpiry s = .next t ∧ t.sync.alone = .expired
          ∧ t.reg = { s.reg with table := [], generation := 0, state := .current } ∧ t.sync.phase = .idle
          ∧ t.sync.failed = 0 ∧ FrameBut [.reg, .sync, .roster] s t)
      ∧ (∀ r, s.sync.winchSeen = true → s.sync.phase = .idle → nextAsked s s.sync.responder r →
        ∃ t, exec .aloneWindowExpiry s = .next t ∧ t.sync.alone = .expired ∧ attemptBegun s t r s.sync.failed)
      ∧ (s.sync.winchSeen = true → s.sync.phase ≠ .idle →
        ∃ t, exec .aloneWindowExpiry s = .next t ∧ t.sync = { s.sync with alone := .expired }
          ∧ FrameBut [.sync] s t))
    ∧ (∀ x, s.sync.attemptTimer = some x → s.sync.failed + 1 = 3 →
      ∃ t, exec .attemptTimerExpiry s = .next t ∧ t.sync.phase = .resting ∧ t.sync.failed = 3
        ∧ t.sync.attemptTimer = none ∧ t.sync.retryTimer = some 5000 ∧ t.sync.changes = []
        ∧ newPosts s t = [.notice ⟨24, s.strap, s.flyer, none, s.sync.responder.getD 0⟩]
        ∧ FrameBut [.sync, .line] s t)
    ∧ (∀ x, s.sync.attemptTimer = some x → s.sync.failed + 1 < 3 →
      (∃ t, exec .attemptTimerExpiry s = .next t ∧ t.sync.phase ≠ .copying ∧ t.sync.phase ≠ .awaiting
        ∧ t.sync.changes = [] ∧ t.sync.attemptTimer = none ∧ FrameBut [.reg, .sync, .roster, .line] s t)
      ∧ (s.reg.state = .syncing → (s.sync.beenCurrent = true ∨ s.sync.alone = .expired ∨ s.sync.winchSeen = true) →
        (∀ r, nextAsked s s.sync.responder r →
          ∃ t, exec .attemptTimerExpiry s = .next t ∧ t.sync.changes = [] ∧ t.sync.attemptTimer = none
            ∧ attemptBegun s t r (s.sync.failed + 1))
        ∧ ((∀ m, ¬reportsCurrent s m) → (∃ m, m < s.strap ∧ m < 32 ∧ (s.roster.entry m).present = true) →
          ∃ t, exec .attemptTimerExpiry s = .next t ∧ t.sync.phase = .idle ∧ t.sync.failed = s.sync.failed + 1
            ∧ t.reg = s.reg ∧ newPosts s t = [] ∧ FrameBut [.sync] s t)
        ∧ ((∀ m, ¬reportsCurrent s m) → (∀ m, m < s.strap → m < 32 → (s.roster.entry m).present = false) →
            (s.sync.beenCurrent = true ∨ s.sync.alone = .expired) →
          ∃ t, exec .attemptTimerExpiry s = .next t
            ∧ t.reg = { s.reg with table := [], generation := 0, state := .current } ∧ t.sync.phase = .idle
            ∧ t.sync.failed = 0 ∧ newPosts s t = [] ∧ FrameBut [.reg, .sync, .roster] s t)))
    ∧ (∀ x, s.sync.retryTimer = some x →
      (∃ t, exec .retryTimerExpiry s = .next t ∧ t.sync.failed = 0 ∧ t.sync.retryTimer = none
        ∧ (t.sync.phase = .idle ∨ t.sync.phase = .posting) ∧ FrameBut [.reg, .sync, .roster, .line] s t)
      ∧ (∀ r, s.reg.state = .syncing → (s.sync.beenCurrent = true ∨ s.sync.alone = .expired ∨ s.sync.winchSeen = true) →
          nextAsked s none r →
        ∃ t, exec .retryTimerExpiry s = .next t ∧ t.sync.retryTimer = none ∧ attemptBegun s t r 0))

/-! ### Cues and the set start -/

/-- A segment number as a NOTICE carries it: absent above 47 (08 R162). -/
def noticed (segment : Nat) : Option Nat := if segment ≤ 47 then some segment else none

/-- A CUE for the station's flyer joins the queue or is refused at the first test that fails, with its NOTICE; one for another flyer does nothing beyond the roster. A station in LINE-OFF does the same, with the NOTICE discarded (03 R45, R47, R48; 07 R134, R143; 08 R158). -/
def Obligations.CueIsQueuedOrRefused : Prop :=
  ∀ (n : Fin 48) (f sh sg reps ts tg d : Nat) (s : State), Receives s → (ts = 255 ∨ (ts ≤ 47 ∧ tg ≤ 47)) →
    (f = s.flyer →
      let refusal : Option Nat :=
        if s.lock.copy.isSome then some 10
        else if s.cue.showStop then some 9
        else if s.store.copy.isSome then some 1
        else if s.store.swapPending.isSome then some 11
        else if 8 ≤ s.cue.queue.length then some 2
        else if ∃ e ∈ s.cue.queue, e.showNo = sh ∧ e.segment = sg then some 3
        else none
      ∃ t, exec (.cue n f sh sg reps ts tg d) s = .next t ∧ FrameBut [.cue, .roster, .line] s t
        ∧ match refusal with
          | some code => CueUnit.sameBut s.cue t.cue ∧ posted s t [.notice ⟨code, n.val, s.flyer, noticed sg, sh⟩]
          | none => newPosts s t = [] ∧ ∃ e, CueUnit.sameBut { s.cue with queue := s.cue.queue ++ [e] } t.cue
              ∧ e.caller = n.val ∧ e.flyer = f ∧ e.showNo = sh ∧ e.segment = sg ∧ e.reps = reps
              ∧ e.trigger = (if ts = 255 then none else some (ts, tg)) ∧ (ts ≠ 255 → e.delay = 10 * d)
              ∧ e.seen = false)
    ∧ (f ≠ s.flyer → ∃ t, exec (.cue n f sh sg reps ts tg d) s = .next t ∧ FrameBut [.roster, .line] s t)

/-- A DROP for the station's flyer removes the matching queue entry, drops a matching armed cue with reason DROP, and comes too late for a matching running one; a segment above 47 or another flyer matches nothing (03 R66; 08 R159). -/
def Obligations.DropRemovesOrDrops : Prop :=
  ∀ (n : Fin 48) (f sh sg : Nat) (s : State), CalmOn s →
    (f = s.flyer → sg ≤ 47 →
      ∃ t, exec (.drop n f sh sg) s = .next t
        ∧ t.cue.queue = s.cue.queue.filter (fun e => !(e.showNo == sh && e.segment == sg))
        ∧ (∀ c, s.cue.current = some c → c.phase = .armed → c.showNo = sh → c.segment = sg →
            t.cue.current = none ∧ Post.cut s.flyer sg c.reps 0 2 ∈ newPosts s t)
        ∧ (∀ c, s.cue.current = some c → c.phase = .running → c.showNo = sh → c.segment = sg →
            t.cue.current = some c ∧ newPosts s t = [.notice ⟨14, n.val, s.flyer, some sg, sh⟩])
        ∧ ((∀ c, s.cue.current = some c → c.showNo ≠ sh ∨ c.segment ≠ sg) →
            t.cue.current = s.cue.current ∧ newPosts s t = [] ∧ FrameBut [.cue, .roster, .line] s t)
        ∧ FrameBut [.cue, .axis, .roster, .line, .store] s t)
    ∧ (f ≠ s.flyer ∨ 47 < sg → ∃ t, exec (.drop n f sh sg) s = .next t ∧ FrameBut [.roster, .line] s t)

/-- The drop of an armed cue: the axis returns to its origin, the waits stop, CUT is posted with the resolved repetitions and step 0, and the set lead gives back space the set never used; shown for a DROP (03 R65, 05 R99). -/
def Obligations.DropReturnsToOrigin : Prop :=
  ∀ (n : Fin 48) (c : CurrentCue) (o : AxisState) (s : State), CalmOn s → s.cue.current = some c →
    c.phase = .armed → c.segment ≤ 47 → s.axis.state = .armed → s.axis.origin = some o → o ≠ .armed →
    ∃ t, exec (.drop n s.flyer c.showNo c.segment) s = .next t ∧ t.axis.state = o ∧ t.axis.origin = none
      ∧ t.axis.brake = s.axis.brake ∧ t.axis.demand = s.axis.demand ∧ t.axis.faults = s.axis.faults
      ∧ t.cue.current = none ∧ t.cue.readyWait = none ∧ t.cue.spaceWait = none ∧ t.cue.held = s.cue.held
      ∧ (∀ ms, Post.ready s.flyer c.showNo c.segment ms ∉ t.line.queue.map (·.post))
      ∧ newPosts s t = .cut s.flyer c.segment c.reps 0 2
          :: (if s.isLead = true ∧ s.cue.held.map (·.key) ≠ some c.runKey ∧ hasKey s.reg.table c.runKey = true
              then [.release c.runKey] else [])
      ∧ t.line.slot.isSome = true ∧ FrameBut [.cue, .axis, .roster, .line, .store] s t

/-- The slot of member `m` holds `v`, and every other slot is as it was. -/
def slotSet (s t : State) (m : Nat) (v : Option (Nat × Nat)) : Prop :=
  ∀ i : Nat, i < s.members.length →
    (s.members[i]? = some m → t.cue.slots[i]? = some v)
      ∧ (s.members[i]? ≠ some m → t.cue.slots[i]? = s.cue.slots[i]?)

/-- A matching READY is written into its sender's slot whatever the station's own state, and the station's own one starts the ready wait of its armed cue. No start follows while the register lacks the run's entry, the READY is for another show or segment, or another member's slot does not hold the cue's (03 R54, R55, R58). -/
def Obligations.ReadyIsRecorded : Prop :=
  ∀ (n : Fin 48) (sh sg : Nat) (s : State), Receives s → SlotsFit s → n.val ∈ s.members →
    1 ≤ s.members.length → s.members.length ≤ 4 →
    (∀ c, s.cue.current = some c → c.phase = .armed →
      hasEntry s.reg.table c.runKey c.box = false ∨ c.showNo ≠ sh ∨ c.segment ≠ sg
        ∨ ∃ i, i < s.members.length ∧ s.members[i]? ≠ some n.val
            ∧ s.cue.slots[i]? ≠ some (some (c.showNo, c.segment))) →
    ∃ t, exec (.ready n s.flyer sh sg s.members) s = .next t ∧ slotSet s t n.val (some (sh, sg))
      ∧ t.cue.current = s.cue.current ∧ t.cue.queue = s.cue.queue
      ∧ (∀ c, n.val = s.strap → s.cue.current = some c → c.phase = .armed → c.showNo = sh → c.segment = sg →
          t.cue.readyWait = some 15000)
      ∧ (n.val ≠ s.strap → t.cue.readyWait = s.cue.readyWait) ∧ FrameBut [.cue, .roster, .line] s t

/-- The start, at the READY that fills the last slot: RUNNING, slots emptied, waits stopped, FLYING with the brake released and demand 0, the engine begins the segment with cursor, direction, steps left, step timer and target by its mode, the aloft record is aimed at the run's claim and the lead gives up its held key (03 R58, R59; 05 R100, R105; 04 R78, R83; 09 R176; 06 R130). -/
def Obligations.ReadyStartsTheRun : Prop :=
  ∀ (n : Fin 48) (c : CurrentCue) (s : State), CalmOn s → SlotsFit s → n.val ∈ s.members →
    s.members.length ≤ 4 → s.cue.current = some c → c.phase = .armed → s.axis.state = .armed →
    (∀ i, i < s.members.length → s.members[i]? ≠ some n.val → s.cue.slots[i]? = some (some (c.showNo, c.segment))) →
    hasEntry s.reg.table c.runKey c.box = true →
    ∃ t, exec (.ready n s.flyer c.showNo c.segment s.members) s = .next t ∧ runStarted s t c
      ∧ FrameBut [.cue, .axis, .engine, .roster, .line, .store] s t

/-- A READY that concerns the set but does not match it is not recorded: NOTICE SET_MISMATCH is posted, and an armed cue of that show and segment is dropped (03 R55, R57). -/
def Obligations.MismatchedReadyDropsTheCue : Prop :=
  ∀ (n : Fin 48) (f sh sg : Nat) (ms : List Nat) (s : State), CalmOn s → 1 ≤ ms.length → ms.length ≤ 4 →
    (f = s.flyer ∨ n.val ∈ s.members) → ¬(n.val ∈ s.members ∧ f = s.flyer ∧ ms = s.members) →
    startCondition s = false →
    ∃ t, exec (.ready n f sh sg ms) s = .next t ∧ t.cue.slots = s.cue.slots
      ∧ Post.notice ⟨12, n.val, s.flyer, noticed sg, sh⟩ ∈ newPosts s t
      ∧ (∀ c, s.cue.current = some c → c.phase = .armed → c.showNo = sh → c.segment = sg →
          t.cue.current = none ∧ Post.cut s.flyer sg c.reps 0 6 ∈ newPosts s t)
      ∧ (∀ c, s.cue.current = some c → (c.phase = .running ∨ c.showNo ≠ sh ∨ c.segment ≠ sg) →
          t.cue.current = some c ∧ FrameBut [.roster, .line] s t)
      ∧ FrameBut [.cue, .axis, .roster, .line, .store] s t

/-- An UNREADY from a member empties its slot and drops an armed cue of its show and segment, the sender's own included; nothing else is affected. A station in LINE-OFF does the same, with every post discarded and a lead's RELEASE kept as owed (03 R56, R61, R65, R69; 07 R134, R143). The flyer field is not compared: log entry 15. -/
def Obligations.UnreadyDropsTheCue : Prop :=
  ∀ (n : Fin 48) (f sh sg : Nat) (s : State), Receives s → SlotsFit s →
    (n.val ∈ s.members →
      ∃ t, exec (.unready n f sh sg) s = .next t ∧ slotSet s t n.val none ∧ t.cue.queue = s.cue.queue
        ∧ (∀ c, sg ≤ 47 → s.cue.current = some c → c.phase = .armed → c.showNo = sh → c.segment = sg →
            t.cue.current = none ∧ alsoPosted s t (.cut s.flyer sg c.reps 0 3)
              ∧ (s.line.state = .lineOff → releaseKept s t c))
        ∧ ((∀ c, s.cue.current = some c → c.phase = .running ∨ c.showNo ≠ sh ∨ c.segment ≠ sg) →
            t.cue.current = s.cue.current ∧ newPosts s t = [] ∧ FrameBut [.cue, .roster, .line] s t)
        ∧ FrameBut [.cue, .axis, .roster, .line, .store] s t)
    ∧ (n.val ∉ s.members → ∃ t, exec (.unready n f sh sg) s = .next t ∧ FrameBut [.roster, .line] s t)

/-- A DONE sets trigger seen in exactly the entries whose trigger names its sender and segment, wherever they stand; nothing else changes (03 R49). -/
def Obligations.DoneSetsTriggerSeen : Prop :=
  ∀ (n : Fin 48) (f sg reps : Nat) (s : State), Receives s →
    ∃ t, exec (.done n f sg reps) s = .next t
      ∧ CueUnit.sameBut { s.cue with queue := t.cue.queue } t.cue
      ∧ t.cue.queue.length = s.cue.queue.length
      ∧ (∀ (i : Nat) (e : CueEntry), s.cue.queue[i]? = some e →
          (e.trigger = some (n.val, sg) → t.cue.queue[i]? = some { e with seen := true })
            ∧ (e.trigger ≠ some (n.val, sg) → t.cue.queue[i]? = some e))
      ∧ FrameBut [.cue, .roster, .line] s t

/-- A CUT from a member empties its slot whatever its reason; the set lead's CUT(SPACE) drops an armed cue of that segment, with a CUT of the station's own unless it was the sender; any other CUT drops nothing: one from another member, for another reason or segment, or beside a RUNNING cue or none. A station in LINE-OFF does the same, with every post discarded and a lead's RELEASE kept as owed (03 R56, R63, R65, R69; 07 R134, R143). The flyer field is not compared: log entry 15. -/
def Obligations.CutEmptiesSlot : Prop :=
  ∀ (n : Fin 48) (f sg rem st reason : Nat) (s : State), Receives s → SlotsFit s →
    (n.val ∈ s.members →
      ∃ t, exec (.cut n f sg rem st reason) s = .next t ∧ slotSet s t n.val none ∧ t.cue.queue = s.cue.queue
        ∧ (∀ c, s.members.head? = some n.val → reason = 4 → s.cue.current = some c → c.phase = .armed →
            c.segment = sg →
            t.cue.current = none ∧ (n.val ≠ s.strap → alsoPosted s t (.cut s.flyer sg c.reps 0 4))
              ∧ (n.val = s.strap → Post.cut s.flyer sg c.reps 0 4 ∉ newPosts s t)
              ∧ (s.line.state = .lineOff → newPosts s t = [] ∧ releaseKept s t c))
        ∧ (s.members.head? ≠ some n.val ∨ reason ≠ 4
            ∨ (∀ c, s.cue.current = some c → c.phase = .running ∨ c.segment ≠ sg) →
            t.cue.current = s.cue.current ∧ newPosts s t = [] ∧ FrameBut [.cue, .roster, .line] s t)
        ∧ FrameBut [.cue, .axis, .roster, .line, .store] s t)
    ∧ (n.val ∉ s.members → ∃ t, exec (.cut n f sg rem st reason) s = .next t ∧ FrameBut [.roster, .line] s t)

/-- The refusal of a head at taking, in the order of its tests (03 R52). -/
def takingRefusal (s : State) (h : CueEntry) : Option Nat :=
  let ws := s.store.working.words
  let g := segmentOf ws h.segment
  let reps := if h.reps = 0 then g.defaultReps else h.reps
  if s.store.working.valid = false then some 13
  else if h.showNo ≠ bankShow ws then some 4
  else if 47 < h.segment ∨ g.mode = none then some 5
  else if ¬((g.mode = some .swing ∧ 1 ≤ reps ∧ reps ≤ 255) ∨ (g.mode ≠ some .swing ∧ reps = 1)) then some 6
  else if (g.tolerance : Int) < |s.axis.inputs.haul - (g.startHaul : Int)| then some 7
  else if s.axis.state = .recovery ∧ g.lowering = false then some 8
  else none

/-- What taking the head `h` does: a refused head leaves the queue with its NOTICE; an armed one becomes the current cue, the axis goes ARMED from its origin with the brake as it was, and READY and, at the set lead, CLAIM are posted (03 R46, R52, R53). -/
def takingDone (s t : State) (h : CueEntry) : Prop :=
  let g := segmentOf s.store.working.words h.segment
  let reps := if h.reps = 0 then g.defaultReps else h.reps
  t.cue.queue = s.cue.queue.tail ∧
  match takingRefusal s h with
  | some code => t.cue.current = s.cue.current
      ∧ newPosts s t = [.notice ⟨code, h.caller, s.flyer, noticed h.segment, h.showNo⟩]
      ∧ FrameBut [.cue, .line] s t
  | none => t.cue.current = some ⟨.armed, h.caller, h.showNo, h.segment, reps, ⟨s.flyer, g.tag⟩, g.box, g.landing, false⟩
      ∧ t.axis.state = .armed ∧ t.axis.origin = some s.axis.state ∧ t.axis.brake = s.axis.brake
      ∧ newPosts s t = .ready s.flyer h.showNo h.segment s.members
          :: (if s.isLead = true then [.claim ⟨s.flyer, g.tag⟩ g.box] else [])
      ∧ slotSet s t s.strap none ∧ t.line.slot.isSome = true ∧ FrameBut [.cue, .axis, .line] s t

/-- The head is eligible (03 R50). -/
def eligible (s : State) (h : CueEntry) : Prop :=
  AxisState.atRest s.axis.state = true ∧ s.reg.state = .current ∧ s.cue.showStop = false ∧ s.store.copy = none
    ∧ s.line.state = .on ∧ s.cue.owed = [] ∧ (h.trigger = none ∨ h.seen = true)

/-- TAKE_CUE takes an eligible untriggered head; CHAIN_DELAY_EXPIRY takes a head that is still eligible (03 R50 to R53). TAKE_CUE is a step of its own: log entry 1. -/
def Obligations.HeadIsTaken : Prop :=
  ∀ (h : CueEntry) (q : List CueEntry) (s : State), CalmOn s → SlotsFit s → s.cue.queue = h :: q → eligible s h →
    (h.trigger = none → ∃ t, exec .takeCue s = .next t ∧ takingDone s t h)
    ∧ (∀ x, s.cue.chainDelay = some x → ∃ t, exec .chainDelayExpiry s = .next t ∧ takingDone s t h)

/-- The waits expire: a due PRESENCE is enqueued, the ready wait posts UNREADY and the space wait CUT(SPACE), the cue staying armed; where the outgoing queue is full and no queued post's class is above 2, the UNREADY or the CUT(SPACE) is discarded and its report drops the cue (06 R126; 03 R60, R63, R65; 07 R148). When a report is acted on: log entry 10. -/
def Obligations.WaitsExpire : Prop :=
  (∀ s : State, CalmOn s →
    (∀ x, s.roster.presenceTimer = some x →
      ∃ t, exec .presenceTimerExpiry s = .next t ∧ t.line.slot.isSome = true ∧ t.roster.presenceTimer = none
        ∧ t.line.queue = s.line.queue ∧ FrameBut [.roster, .line] s t)
    ∧ (∀ x c, s.cue.readyWait = some x → s.cue.current = some c → c.phase = .armed →
      ∃ t, exec .readyWaitExpiry s = .next t ∧ CueUnit.sameBut { s.cue with readyWait := none } t.cue
        ∧ newPosts s t = [.unready s.flyer c.showNo c.segment] ∧ FrameBut [.cue, .line] s t)
    ∧ (∀ x c, s.cue.spaceWait = some x → s.cue.current = some c → c.phase = .armed →
      ∃ t, exec .spaceWaitExpiry s = .next t ∧ CueUnit.sameBut { s.cue with spaceWait := none } t.cue
        ∧ newPosts s t = [.cut s.flyer c.segment c.reps 0 4] ∧ FrameBut [.cue, .line] s t))
  ∧ (∀ (c : CurrentCue) (o : AxisState) (s : State), s.power = .running → s.line.reports = [] → s.line.state = .on →
      s.line.queue.length = 8 → (∀ p ∈ s.line.queue, Post.cls p.post ≤ 2) → s.cue.current = some c →
      c.phase = .armed → s.axis.state = .armed → s.axis.origin = some o → o ≠ .armed →
    (∀ x, s.cue.readyWait = some x →
      ∃ t, exec .readyWaitExpiry s = .next t ∧ t.cue.current = none ∧ t.axis.state = o
        ∧ (∀ p ∈ t.line.queue, p.post ≠ .unready s.flyer c.showNo c.segment))
    ∧ (∀ x, s.cue.spaceWait = some x →
      ∃ t, exec .spaceWaitExpiry s = .next t ∧ t.cue.current = none ∧ t.axis.state = o))

/-! ### Roster and presence -/

/-- A PRESENCE makes its sender present and overwrites its reported fields; a peer's sets its agree mark, UNMARKED where the station's own register is not CURRENT, and is remembered as seen; the station's own starts the presence timer again (06 R121, R122, R126; 08 R160; 02 R29, R41). A flyer outside 1 to 15 is recorded as none (08 R160); a run segment and a step index are recorded as sent for every number, outside their ranges too, which is the model's choice: log entry 36. -/
def Obligations.PresenceIsRecorded : Prop :=
  ∀ (n : Fin 48) (p : Presence) (s : State), CalmOn s →
    ∃ t, exec (.presence n p) s = .next t
      ∧ (let e := t.roster.entry n.val
         e.present = true ∧ e.lapse = some 120 ∧ e.seen = true ∧ e.axis = p.axis ∧ e.reg = p.reg
          ∧ e.flyer = (if 1 ≤ p.flyer ∧ p.flyer ≤ 15 then some p.flyer else none)
          ∧ e.generation = some p.generation ∧ e.runSegment = p.runSegment ∧ e.stepIndex = some p.stepIndex
          ∧ e.showStop = some p.showStop)
      ∧ (∀ m, m ≠ n.val → { t.roster.entry m with mark := .unmarked } = { s.roster.entry m with mark := .unmarked })
      ∧ (n.val = s.strap → t.roster.presenceTimer = some 40)
      ∧ (n.val ≠ s.strap → n.val < 32 → s.reg.state = .current →
          (p.reg = some .current → p.generation = s.reg.generation → (t.roster.entry n.val).mark = .agrees)
            ∧ (p.reg = some .current → p.generation ≠ s.reg.generation → (t.roster.entry n.val).mark = .disagrees)
            ∧ (p.reg = some .syncing ∨ p.reg = some .stale → (t.roster.entry n.val).mark = .unmarked))
      ∧ (n.val ≠ s.strap → n.val < 32 → s.reg.state ≠ .current → (t.roster.entry n.val).mark = .unmarked)
      ∧ (n.val ≠ s.strap → n.val < 32 → t.sync.winchSeen = true)
      ∧ FrameBut [.reg, .sync, .roster, .line] s t

/-- At its own PRESENCE a CURRENT station that finds more disagreeing than agreeing peers becomes STALE and posts DIVERGED; otherwise it stays CURRENT and posts nothing (02 R42). -/
def Obligations.DivergenceJudged : Prop :=
  ∀ (n : Fin 48) (p : Presence) (s : State), CalmOn s → n.val = s.strap → s.reg.state = .current →
    let disagreeing := ((List.range 32).filter (fun m => m != s.strap && (s.roster.entry m).present
      && (s.roster.entry m).seen && (s.roster.entry m).reg == some .current
      && (s.roster.entry m).mark == .disagrees)).length
    let agreeing := ((List.range 32).filter (fun m => m != s.strap && (s.roster.entry m).present
      && (s.roster.entry m).seen && (s.roster.entry m).reg == some .current
      && (s.roster.entry m).mark == .agrees)).length
    ∃ t, exec (.presence n p) s = .next t
      ∧ (agreeing < disagreeing → t.reg = { s.reg with state := .stale }
          ∧ newPosts s t = [.notice ⟨23, s.strap, s.flyer, none, disagreeing⟩]
          ∧ ∀ m, m < 48 → (t.roster.entry m).mark = .unmarked)
      ∧ (disagreeing ≤ agreeing → t.reg = s.reg ∧ newPosts s t = []) ∧ FrameBut [.reg, .sync, .roster, .line] s t

/-- The skew monitor and the show-stop watch at another station's PRESENCE (06 R130, R131), whatever the state of the station's register: a station that has restarted watches for a show-stop while SYNCING, and one that flies while STALE watches its step index (01 R22). A missing flyer or run segment differs from a present one: log entry 16. -/
def Obligations.WatchesPostHalts : Prop :=
  ∀ (n : Fin 48) (p : Presence) (s : State), CalmOn s → n.val ≠ s.strap →
    (n.val ∈ s.members → s.axis.state = .flying → s.roster.skewReported = false → p.axis = some .flying →
        (p.flyer ≠ s.flyer ∨ p.runSegment ≠ s.cue.current.map (·.segment)
          ∨ s.conf.skewLimit < p.stepIndex - s.engine.stepIndex
          ∨ s.conf.skewLimit < s.engine.stepIndex - p.stepIndex) →
      ∃ t, exec (.presence n p) s = .next t ∧ t.roster.skewReported = true ∧ Post.halt s.flyer 4 ∈ newPosts s t
        ∧ FrameBut [.reg, .sync, .roster, .line] s t)
    ∧ (n.val ∉ s.members ∨ s.axis.state ≠ .flying ∨ s.roster.skewReported = true ∨ p.axis ≠ some .flying
        ∨ (p.flyer = s.flyer ∧ 1 ≤ s.flyer ∧ s.flyer ≤ 15 ∧ p.runSegment = s.cue.current.map (·.segment)
          ∧ p.stepIndex - s.engine.stepIndex ≤ s.conf.skewLimit
          ∧ s.engine.stepIndex - p.stepIndex ≤ s.conf.skewLimit) →
      ∃ t, exec (.presence n p) s = .next t ∧ t.roster.skewReported = s.roster.skewReported
        ∧ Post.halt s.flyer 4 ∉ newPosts s t ∧ FrameBut [.reg, .sync, .roster, .line] s t)
    ∧ (n.val < 32 → p.showStop = true → s.cue.showStop = false → (∀ o ∈ s.line.queue, o.post ≠ .halt 255 5) →
      ∃ t, exec (.presence n p) s = .next t ∧ Post.halt 255 5 ∈ newPosts s t ∧ FrameBut [.reg, .sync, .roster, .line] s t)
    ∧ (32 ≤ n.val ∨ p.showStop = false ∨ s.cue.showStop = true ∨ (∃ o ∈ s.line.queue, o.post = .halt 255 5) →
      ∃ t, exec (.presence n p) s = .next t ∧ Post.halt 255 5 ∉ newPosts s t ∧ FrameBut [.reg, .sync, .roster, .line] s t)

/-- The post a full queue discards for a new post of class `c`: of the posts neither on the line nor to be retried, those of a class above `c`, the highest class, and of that the youngest (07 R148). -/
def displacedBy (l : Line) (c : Nat) (v : OutPost) : Prop :=
  v ∈ l.queue ∧ l.onLine ≠ some (.own (.queued v.age)) ∧ l.retry ≠ some (.queued v.age) ∧ c < Post.cls v.post
    ∧ ∀ o ∈ l.queue, l.onLine ≠ some (.own (.queued o.age)) → l.retry ≠ some (.queued o.age) →
        Post.cls o.post < Post.cls v.post ∨ (Post.cls o.post = Post.cls v.post ∧ o.age ≤ v.age)

/-- A lapse makes the entry absent; a member's lapse empties its slot and halts the flyer where the station is armed, flying or stopping or holds a queued cue (06 R123, R129). The HALT enters a full queue by displacing its youngest post of the highest class, and is discarded where no post can be displaced; the block that enqueued the displaced post acts on the report: a CLAIM, RELEASE, CUT or DONE becomes owed, a READY drops its cue, a SYNC fails its attempt, an answer's post ends the answer, a NOTICE is not posted again (07 R148; 03 R64, R70; 02 R30, R34). The expiry of a stopped timer does nothing, and a report is acted on after the event's own effects: log entries 3 and 10. -/
def Obligations.LapseEmptiesEntry : Prop :=
  (∀ (n : Fin 48) (s : State), CalmOn s → SlotsFit s →
    ((s.roster.entry n.val).lapse = none → ∃ t, exec (.lapse n) s = .next t ∧ FrameBut [] s t)
    ∧ (∀ x, (s.roster.entry n.val).lapse = some x →
      ∃ t, exec (.lapse n) s = .next t ∧ t.roster.entry n.val = RosterEntry.absent
        ∧ (∀ m, m ≠ n.val → t.roster.entry m = s.roster.entry m)
        ∧ (n.val ∈ s.members → n.val ≠ s.strap → slotSet s t n.val none
            ∧ newPosts s t = if s.axis.state = .armed ∨ s.axis.state = .flying ∨ s.axis.state = .stopping
                ∨ s.cue.queue ≠ [] then [.halt s.flyer 3] else [])
        ∧ (n.val ∉ s.members ∨ n.val = s.strap → FrameBut [.roster] s t)
        ∧ FrameBut [.roster, .cue, .line] s t))
  ∧ (∀ (n : Fin 48) (x : Nat) (s : State), s.power = .running → s.line.state = .on → s.line.reports = [] →
      QueuesBounded s → s.line.queue.length = 8 → n.val ∈ s.members → n.val ≠ s.strap →
      (s.roster.entry n.val).lapse = some x →
      (s.axis.state = .armed ∨ s.axis.state = .flying ∨ s.axis.state = .stopping ∨ s.cue.queue ≠ []) →
    (∀ v, displacedBy s.line 0 v →
      let entered := s.line.queue.filter (fun o => o.age != v.age) ++ [⟨.halt s.flyer 3, .plain, s.line.nextAge⟩]
      (∀ y, v.post = .notice y →
        ∃ t, exec (.lapse n) s = .next t ∧ t.line.queue = entered ∧ t.line.reports = [] ∧ t.cue.owed = s.cue.owed
          ∧ FrameBut [.roster, .cue, .line] s t)
      ∧ ((∃ k b, v.post = .claim k b) ∨ (∃ k, v.post = .release k) ∨ (∃ f g m, v.post = .done f g m)
          ∨ ((∃ f g m i r, v.post = .cut f g m i r) ∧ v.use ≠ .spaceWait) →
        ∃ t, exec (.lapse n) s = .next t ∧ t.line.queue = entered ∧ t.line.reports = []
          ∧ t.cue.owed = s.cue.owed ++ [⟨v.post, v.use⟩] ∧ FrameBut [.roster, .cue, .line] s t)
      ∧ (∀ c f m, v.post = .ready f c.showNo c.segment m → s.cue.current = some c → c.phase = .armed →
        ∃ t, exec (.lapse n) s = .next t ∧ t.cue.current = none)
      ∧ (∀ q r, v.post = .sync q r → s.sync.phase = .posting → s.sync.failed + 1 = 3 →
        ∃ t, exec (.lapse n) s = .next t ∧ t.sync.phase = .resting ∧ t.sync.retryTimer = some 5000)
      ∧ (∀ q i k b, v.post = .tableEntry q i k b → s.sync.answer.isSome = true → s.sync.waitList = [q] →
        ∃ t, exec (.lapse n) s = .next t ∧ t.line.queue = entered ∧ t.sync.answer = none ∧ t.sync.waitList = []))
    ∧ ((∀ o ∈ s.line.queue, Post.cls o.post = 0 ∨ s.line.onLine = some (.own (.queued o.age))
          ∨ s.line.retry = some (.queued o.age)) →
      ∃ t, exec (.lapse n) s = .next t ∧ t.line.queue = s.line.queue ∧ t.line.reports = []
        ∧ t.cue.owed = s.cue.owed ∧ FrameBut [.roster, .cue, .line] s t))

/-! ### Faults and the lock -/

/-- An ACK naming the station clears each listed kind whose persisting condition does not hold, and the axis leaves FAULTED when none is left: for LOCKED if the lock is kept, else for PARKED or HOLDING by haul; one naming another station does nothing beyond the roster (05 R106, R114, R115). -/
def Obligations.AckClearsKinds : Prop :=
  ∀ (n : Fin 48) (target : Nat) (ks : FaultSet) (s : State), Receives s → s.axis.state = .faulted →
    FaultSet.isEmpty s.axis.faults = false →
    (target = s.strap →
      let i := s.axis.inputs
      let left : FaultSet :=
        ⟨s.axis.faults.estop && !(ks.estop && !i.estop),
         s.axis.faults.drive && !(ks.drive && !i.driveFault),
         s.axis.faults.overload && !(ks.overload && decide (i.load ≤ (s.conf.overloadThreshold : Int))),
         s.axis.faults.brake && !(ks.brake && decide (i.feedback = s.axis.brake)),
         s.axis.faults.follow && !ks.follow, s.axis.faults.slack && !ks.slack,
         s.axis.faults.limit && !(ks.limit && !i.upper && !i.lower && decide (i.haul ≤ (s.conf.maxHaul : Int))),
         s.axis.faults.deaf⟩
      ∃ t, exec (.ack n target ks) s = .next t ∧ t.axis.faults = left ∧ t.axis.brake = s.axis.brake
        ∧ t.axis.demand = s.axis.demand
        ∧ t.axis.state = (if FaultSet.isEmpty left = false then .faulted
            else if s.lock.copy.isSome then .locked
            else if i.haul ≤ (s.conf.groundBand : Int) then .parked
            else .holding)
        ∧ (left ≠ s.axis.faults → s.line.state = .on → t.line.slot.isSome = true)
        ∧ FrameBut [.axis, .roster, .line, .store] s t)
    ∧ (target ≠ s.strap → ∃ t, exec (.ack n target ks) s = .next t ∧ FrameBut [.roster, .line] s t)

/-- A write of a record is pending: its target differs from its stored value, or it is in flight (09 R176). -/
def aloftWritePending (st : Store) : Prop := st.aloft.target ≠ st.aloft.stored ∨ ∃ v, st.inFlight = some (.aloftWrite v)
def lockWritePending (st : Store) : Prop := st.lockRec.target ≠ st.lockRec.stored ∨ ∃ v, st.inFlight = some (.lockWrite v)

/-- A LOCK action is refused with ALREADY, NOT_AT_REST or BUSY, or accepted: queue flushed, lock copy and lock record's target set, axis LOCKED (10 R179). A LOCK post with no or several action flags is refused with BAD_FLAGS (10 R178). Bad flags are carried by the LOCK row: log entry 28. -/
def Obligations.LockActionDecided : Prop :=
  ∀ (n : Fin 48) (fl : Byte) (code : Word) (s : State), CalmOn s →
    (lockAction fl = .bad →
      ∃ t, exec (.lock n s.strap fl code) s = .next t
        ∧ newPosts s t = [.notice ⟨16, n.val, s.flyer, none, fl.toNat⟩] ∧ FrameBut [.roster, .line] s t)
    ∧ (lockAction fl = .lock → s.lock.copy.isSome = true →
      ∃ t, exec (.lock n s.strap fl code) s = .next t
        ∧ newPosts s t = [.notice ⟨19, n.val, s.flyer, none, axisCode s.axis.state⟩] ∧ FrameBut [.roster, .line] s t)
    ∧ (lockAction fl = .lock → s.lock.copy = none → s.axis.state ≠ .parked →
      ∃ t, exec (.lock n s.strap fl code) s = .next t
        ∧ newPosts s t = [.notice ⟨18, n.val, s.flyer, none, axisCode s.axis.state⟩] ∧ FrameBut [.roster, .line] s t)
    ∧ (lockAction fl = .lock → s.lock.copy = none → s.axis.state = .parked →
        (s.store.copy.isSome = true ∨ aloftWritePending s.store) →
      ∃ t, exec (.lock n s.strap fl code) s = .next t
        ∧ newPosts s t = [.notice ⟨1, n.val, s.flyer, none, 16⟩] ∧ FrameBut [.roster, .line] s t)
    ∧ (lockAction fl = .lock → s.lock.copy = none → s.axis.state = .parked → s.store.copy = none →
        ¬aloftWritePending s.store →
      ∃ t, exec (.lock n s.strap fl code) s = .next t ∧ t.lock.copy = some code
        ∧ t.store.lockRec = ⟨s.store.lockRec.stored, some code⟩ ∧ t.axis = { s.axis with state := .locked }
        ∧ t.cue.queue = [] ∧ t.cue.current = s.cue.current ∧ t.cue.held = s.cue.held ∧ t.cue.slots = s.cue.slots
        ∧ newPosts s t = (if s.cue.queue = [] then []
            else [.notice ⟨15, s.strap, s.flyer, none, s.cue.queue.length⟩])
        ∧ t.line.slot.isSome = true ∧ FrameBut [.lock, .store, .axis, .cue, .roster, .line] s t)
    ∧ (∀ target, target ≠ s.strap → ∃ t, exec (.lock n target fl code) s = .next t ∧ FrameBut [.roster, .line] s t)

/-- An UNLOCK is decided by the lock copy's code and a MASTER by the crew master code: ALREADY, BUSY, WRONG_CODE, or accepted; in LOCKED the axis enters PARKED with the brake set, in FAULTED it stays (10 R180, R181; 05 R116). -/
def Obligations.UnlockActionsDecided : Prop :=
  ∀ (n : Fin 48) (i : Instr) (fl : Byte) (code wanted : Word) (s : State), CalmOn s →
    (i = .unlock n s.strap fl code ∧ lockAction fl = .unlock ∧ (∀ c, s.lock.copy = some c → wanted = c)
      ∨ i = .master n s.strap fl code ∧ lockAction fl = .master ∧ wanted = s.conf.masterCode) →
    (s.lock.copy = none →
      ∃ t, exec i s = .next t ∧ newPosts s t = [.notice ⟨19, n.val, s.flyer, none, axisCode s.axis.state⟩]
        ∧ FrameBut [.roster, .line] s t)
    ∧ (s.lock.copy.isSome = true → lockWritePending s.store →
      ∃ t, exec i s = .next t ∧ newPosts s t = [.notice ⟨1, n.val, s.flyer, none, 16⟩]
        ∧ FrameBut [.roster, .line] s t)
    ∧ (s.lock.copy.isSome = true → ¬lockWritePending s.store → code ≠ wanted →
      ∃ t, exec i s = .next t ∧ newPosts s t = [.notice ⟨17, n.val, s.flyer, none, fl.toNat⟩]
        ∧ FrameBut [.roster, .line] s t)
    ∧ (s.lock.copy.isSome = true → ¬lockWritePending s.store → code = wanted →
      ∃ t, exec i s = .next t ∧ t.lock.copy = none ∧ t.store.lockRec.target = none ∧ newPosts s t = []
        ∧ (s.axis.state = .locked → t.axis.state = .parked ∧ t.axis.brake = .set ∧ t.axis.demand = 0
            ∧ t.store.aloft.target = .clear ∧ t.line.slot.isSome = true)
        ∧ (s.axis.state ≠ .locked → t.axis = s.axis)
        ∧ FrameBut [.lock, .store, .axis, .roster, .line] s t)

/-! ### The program store -/

/-- The bank that is not active (09 R166). -/
def shadowOf (s : State) : Bank := if s.store.active = some .b then .a else .b

/-- A SWAP naming the station or ALL is refused with FORCED, BUSY or UNVERIFIED, or becomes pending with its sender recorded (09 R173). A VERIFY naming the station is refused with BUSY, or begins: the verified flag is cleared, buffered words are committed where no commit is in flight, and slice 0 is requested, and so waits or is in flight, at a port that was busy behind the operation there (09 R167, R171). -/
def Obligations.SwapAndVerifyAreDecided : Prop :=
  (∀ (n : Fin 48) (target : Nat) (s : State), CalmOn s →
     (target = s.strap ∨ target = 255 →
       (s.store.pinForced = true →
         ∃ t, exec (.swap n target) s = .next t
           ∧ newPosts s t = [.notice ⟨20, n.val, s.flyer, none, bankShow s.store.working.words⟩]
           ∧ FrameBut [.roster, .line] s t)
       ∧ (s.store.pinForced = false → (s.store.swapPending.isSome = true ∨ s.store.copy.isSome = true) →
         ∃ t, exec (.swap n target) s = .next t ∧ newPosts s t = [.notice ⟨1, n.val, s.flyer, none, 18⟩]
           ∧ FrameBut [.roster, .line] s t)
       ∧ (s.store.pinForced = false → s.store.swapPending = none → s.store.copy = none → s.store.verified = false →
         ∃ t, exec (.swap n target) s = .next t
           ∧ newPosts s t = [.notice ⟨21, n.val, s.flyer, none, s.store.lastVerified⟩]
           ∧ FrameBut [.roster, .line] s t)
       ∧ (s.store.pinForced = false → s.store.swapPending = none → s.store.copy = none → s.store.verified = true →
         ∃ t, exec (.swap n target) s = .next t ∧ newPosts s t = []
           ∧ Store.sameBut { s.store with swapPending := some n.val } t.store ∧ FrameBut [.store, .roster, .line] s t))
     ∧ (target ≠ s.strap → target ≠ 255 → ∃ t, exec (.swap n target) s = .next t ∧ FrameBut [.roster, .line] s t))
  ∧ (∀ (n : Fin 48) (target : Nat) (s : State), CalmOn s →
     (target = s.strap → (s.store.copy.isSome = true ∨ s.store.verify.isSome = true) →
       ∃ t, exec (.verify n target) s = .next t ∧ newPosts s t = [.notice ⟨1, n.val, s.flyer, none, 19⟩]
         ∧ FrameBut [.roster, .line] s t)
     ∧ (target = s.strap → s.store.copy = none → s.store.verify = none →
       ∃ t, exec (.verify n target) s = .next t ∧ newPosts s t = [] ∧ t.store.verified = false
         ∧ t.store.verify = some [] ∧ t.store.mem = s.store.mem ∧ t.store.working = s.store.working
         ∧ (s.store.commit = none → s.store.buffer ≠ [] → t.store.commit = some s.store.buffer ∧ t.store.buffer = [])
         ∧ (s.store.commit.isSome = true ∨ s.store.buffer = [] →
             t.store.commit = s.store.commit ∧ t.store.buffer = s.store.buffer)
         ∧ (MemRequest.verifySlice 0 ∈ t.store.waiting ∨ t.store.inFlight = some (.verifySlice 0 false))
         ∧ (s.store.inFlight.isSome = true →
             t.store.inFlight = s.store.inFlight ∧ MemRequest.verifySlice 0 ∈ t.store.waiting)
         ∧ FrameBut [.store, .roster, .line] s t)
     ∧ (target ≠ s.strap → ∃ t, exec (.verify n target) s = .next t ∧ FrameBut [.roster, .line] s t))

/-- A LOAD while the store is SWAPPING or a commit is in flight is refused with BUSY and changes nothing else; one naming another station does nothing beyond the roster; one taken while a verify runs abandons it, its waiting slices removed, the one in flight to be discarded, and VERIFIED posted with result ABANDONED and the show read so far, shown for COMMIT (09 R168, R172). -/
def Obligations.LoadIsTurnedAwayOrAbandonsVerify : Prop :=
  (∀ (n : Fin 48) (target : Nat) (i : Instr) (s : State), CalmOn s →
     ((∃ a k, a ≤ 2 ∧ i = .loadAim n target a k) ∨ (∃ ws, 1 ≤ ws.length ∧ ws.length ≤ 6 ∧ i = .loadData n target ws)
       ∨ i = .loadCommit n target) →
     (target = s.strap → (s.store.copy.isSome = true ∨ s.store.commit.isSome = true) →
       ∃ t, exec i s = .next t ∧ newPosts s t = [.notice ⟨1, n.val, s.flyer, none, 21⟩]
         ∧ FrameBut [.roster, .line] s t)
     ∧ (target ≠ s.strap → ∃ t, exec i s = .next t ∧ FrameBut [.roster, .line] s t))
  ∧ (∀ (n : Fin 48) (ws : List Word) (s : State), CalmOn s → s.store.copy = none → s.store.commit = none →
     s.store.verify = some ws → s.store.buffer = [] →
     ∃ t, exec (.loadCommit n s.strap) s = .next t ∧ t.store.verify = none
       ∧ (∀ i, MemRequest.verifySlice i ∉ t.store.waiting)
       ∧ (∀ i d, s.store.inFlight = some (.verifySlice i d) → t.store.inFlight = some (.verifySlice i true))
       ∧ newPosts s t = [.verified (bankShow ws) 3 255] ∧ t.store.lastVerified = bankShow ws
       ∧ t.store.verified = s.store.verified ∧ FrameBut [.store, .roster, .line] s t)

/-- A taken LOAD with no verify running: AIM commits the buffer and sets the cursor, COMMIT commits the buffer, and DATA places the words that lie within the area at consecutive addresses of the shadow and refuses the rest with OVERRUN; the word that fills the buffer to 16 has a commit requested at once, and the words after it enter the emptied buffer (09 R168 to R170). An index beyond the area's end stays where the AIM put it: log entry 32. -/
def Obligations.LoadIsTaken : Prop :=
  ∀ (n : Fin 48) (s : State), CalmOn s → s.store.copy = none → s.store.commit = none → s.store.verify = none →
    (∀ a k area, areaOfCode a = some area →
      ∃ t, exec (.loadAim n s.strap a k) s = .next t ∧ newPosts s t = [] ∧ t.store.area = area ∧ t.store.index = k
        ∧ t.store.buffer = [] ∧ t.store.commit = (if s.store.buffer = [] then none else some s.store.buffer)
        ∧ t.store.mem = s.store.mem ∧ t.store.verified = s.store.verified ∧ FrameBut [.store, .roster, .line] s t)
    ∧ (∃ t, exec (.loadCommit n s.strap) s = .next t ∧ newPosts s t = [] ∧ t.store.area = s.store.area
        ∧ t.store.index = s.store.index ∧ t.store.buffer = []
        ∧ t.store.commit = (if s.store.buffer = [] then none else some s.store.buffer)
        ∧ t.store.mem = s.store.mem ∧ FrameBut [.store, .roster, .line] s t)
    ∧ (∀ ws : List Word, 1 ≤ ws.length → ws.length ≤ 6 → s.store.buffer.length < 16 →
      let fit := min ws.length (s.store.area.size - s.store.index)
      let base := (shadowOf s).base + s.store.area.offset + s.store.index
      let cells := s.store.buffer ++ (List.range fit).map (fun j => (base + j, ws.getD j 0))
      ∃ t, exec (.loadData n s.strap ws) s = .next t ∧ t.store.verified = false
        ∧ (cells.length < 16 → t.store.buffer = cells ∧ t.store.commit = none)
        ∧ (16 ≤ cells.length → t.store.buffer = cells.drop 16 ∧ t.store.commit = some (cells.take 16)
            ∧ (.commit ∈ t.store.waiting ∨ t.store.inFlight = some (.commit (cells.take 16))))
        ∧ t.store.index = s.store.index + fit ∧ t.store.area = s.store.area
        ∧ newPosts s t = (if fit = ws.length then []
            else [.notice ⟨22, n.val, s.flyer, none, ws.length - fit⟩])
        ∧ t.store.mem = s.store.mem ∧ t.store.working = s.store.working ∧ FrameBut [.store, .roster, .line] s t)

/-- The completions of record writes, the swap flag's write and a commit: memory takes the words, the stored value becomes what was written, a completed swap flag makes its bank active and asks for the copy's first slice, and a commit completed while a verify runs has the words that entered the buffer meanwhile committed at once (09 R163, R170, R175, R176). The unstated words of a clear record are free values: log entry 8. -/
def Obligations.WritesComplete : Prop :=
  ∀ s : State, Calm s → MemoryCanonical s →
    (∀ f k b0 b1 b2, s.store.inFlight = some (.aloftWrite (.set f k b0 b1 b2)) →
      ∃ t, exec .recordWriteCompletion s = .next t ∧ t.store.aloft.stored = .set f k b0 b1 b2
        ∧ t.store.aloft.target = s.store.aloft.target ∧ Memory.read t.store.mem 65 = Word.ofBytes f 1
        ∧ Memory.read t.store.mem 66 = k ∧ Memory.read t.store.mem 67 = b0 ∧ Memory.read t.store.mem 68 = b1
        ∧ Memory.read t.store.mem 69 = b2
        ∧ (∀ a, a < 65 ∨ 69 < a → Memory.read t.store.mem a = Memory.read s.store.mem a) ∧ FrameBut [.store, .memory] s t)
    ∧ (s.store.inFlight = some (.aloftWrite .clear) →
      ∃ t, exec .recordWriteCompletion s = .next t ∧ t.store.aloft.stored = .clear
        ∧ readAloft t.store.mem = .clear
        ∧ (∀ a, a < 65 ∨ 69 < a → Memory.read t.store.mem a = Memory.read s.store.mem a)
        ∧ FrameBut [.store, .memory, .free] s t)
    ∧ (∀ v, s.store.inFlight = some (.lockWrite v) →
      ∃ t, exec .recordWriteCompletion s = .next t ∧ t.store.lockRec.stored = v
        ∧ t.store.lockRec.target = s.store.lockRec.target ∧ readLock t.store.mem = v
        ∧ (∀ a, a < 70 ∨ 71 < a → Memory.read t.store.mem a = Memory.read s.store.mem a)
        ∧ FrameBut [.store, .memory, .free] s t)
    ∧ (∀ v, s.store.inFlight = some (.flagWrite v) →
      ∃ t, exec .swapFlagWriteCompletion s = .next t ∧ t.store.flag.stored = v
        ∧ t.store.active = some (if v = 1 then .b else .a) ∧ Memory.read t.store.mem 64 = v
        ∧ (∀ a, a ≠ 64 → Memory.read t.store.mem a = Memory.read s.store.mem a)
        ∧ t.store.working = s.store.working
        ∧ (MemRequest.copySlice 0 ∈ t.store.waiting ∨ t.store.inFlight = some (.copySlice 0)) ∧ FrameBut [.store, .memory] s t)
    ∧ (∀ cells, s.store.inFlight = some (.commit cells) → s.store.verify = none →
      ∃ t, exec .loadCommitCompletion s = .next t ∧ t.store.commit = none
        ∧ t.store.mem = Memory.writeAll s.store.mem cells
        ∧ (∀ a, (∀ c ∈ cells, c.1 ≠ a) → Memory.read t.store.mem a = Memory.read s.store.mem a)
        ∧ t.store.buffer = s.store.buffer ∧ FrameBut [.store, .memory] s t)
    ∧ (∀ cells ws, s.store.inFlight = some (.commit cells) → s.store.verify = some ws →
      ∃ t, exec .loadCommitCompletion s = .next t ∧ t.store.mem = Memory.writeAll s.store.mem cells
        ∧ (∀ a, (∀ c ∈ cells, c.1 ≠ a) → Memory.read t.store.mem a = Memory.read s.store.mem a)
        ∧ t.store.verify = some ws ∧ t.store.buffer = []
        ∧ (s.store.buffer = [] → t.store.commit = none)
        ∧ (s.store.buffer ≠ [] → t.store.commit = some s.store.buffer
            ∧ (.commit ∈ t.store.waiting ∨ t.store.inFlight = some (.commit s.store.buffer)))
        ∧ FrameBut [.store, .memory] s t)

/-- The completions of slices: a slice's words join the copy or the verify and the next slice is asked for; the last slice of a copy ends the swap, the last of a verify posts its result (09 R165, R167, R171, R175). The working copy is exchanged at the last slice: log entry 18. -/
def Obligations.SlicesComplete : Prop :=
  ∀ (i : Nat) (ws : List Word) (s : State), CalmOn s →
    (s.store.inFlight = some (.copySlice i) → s.store.copy = some ws →
      (i < 38 → ∃ t, exec .bankCopySliceCompletion s = .next t
        ∧ t.store.copy = some (ws ++ readSlice s.store.mem (s.store.active.getD .a) i)
        ∧ (MemRequest.copySlice (i + 1) ∈ t.store.waiting ∨ t.store.inFlight = some (.copySlice (i + 1)))
        ∧ t.store.working = s.store.working ∧ t.store.mem = s.store.mem ∧ FrameBut [.store] s t)
      ∧ (i = 38 → ∃ t, exec .bankCopySliceCompletion s = .next t ∧ t.store.copy = none
        ∧ t.store.swapPending = none
        ∧ t.store.working.words = ws ++ readSlice s.store.mem (s.store.active.getD .a) 38
        ∧ (t.store.working.valid = true
            ↔ validateBank s.conf.maxHaul s.conf.speedLimit t.store.working.words = .ok)
        ∧ t.store.verified = s.store.working.valid ∧ t.store.lastVerified = bankShow s.store.working.words
        ∧ t.store.mem = s.store.mem ∧ FrameBut [.store] s t))
    ∧ (s.store.inFlight = some (.verifySlice i false) → s.store.verify = some ws →
      (i < 38 → ∃ t, exec .verifySliceCompletion s = .next t
        ∧ t.store.verify = some (ws ++ readSlice s.store.mem (shadowOf s) i)
        ∧ (MemRequest.verifySlice (i + 1) ∈ t.store.waiting ∨ t.store.inFlight = some (.verifySlice (i + 1) false))
        ∧ t.store.verified = s.store.verified ∧ t.store.mem = s.store.mem ∧ FrameBut [.store] s t)
      ∧ (i = 38 →
        let read := ws ++ readSlice s.store.mem (shadowOf s) 38
        let r := validateBank s.conf.maxHaul s.conf.speedLimit read
        ∃ t, exec .verifySliceCompletion s = .next t ∧ t.store.verify = none
          ∧ (t.store.verified = true ↔ r = .ok) ∧ t.store.lastVerified = bankShow read
          ∧ newPosts s t = [.verified (bankShow read)
              (match r with | .ok => 0 | .badCheck => 1 | .badSegment _ => 2 | .abandoned => 3)
              (match r with | .badSegment g => g | _ => 255)]
          ∧ t.store.working = s.store.working ∧ t.store.mem = s.store.mem ∧ FrameBut [.store, .line] s t))
    ∧ (s.store.inFlight = some (.verifySlice i true) →
      ∃ t, exec .verifySliceCompletion s = .next t ∧ t.store.verify = s.store.verify ∧ newPosts s t = []
        ∧ t.store.mem = s.store.mem ∧ FrameBut [.store] s t)

/-! ### Steps that are due at once, and the line's timers -/

/-- RESYNC makes a STALE station at rest and ON SYNCING and lets it choose; RE_CLAIM posts the held key's CLAIM once; SWAP_BEGIN enters SWAPPING or abandons an unverified swap (02 R40; 03 R74; 09 R174). The steps are commands of their own, the re-claim has a state, and a swap stays pending while SWAPPING: log entries 1, 20 and 19. -/
def Obligations.DueStepsAct : Prop :=
  ∀ s : State, CalmOn s → AxisState.atRest s.axis.state = true →
    (s.reg.state = .stale → s.sync.beenCurrent = true →
      ∃ t, exec .resync s = .next t ∧ t.sync.failed = 0 ∧ (t.sync.phase = .idle ∨ t.sync.phase = .posting)
        ∧ (t.reg = { s.reg with state := .syncing }
            ∨ t.reg = { s.reg with state := .current, table := [], generation := 0 })
        ∧ (∀ m, m < 32 → m ≠ s.strap → (s.roster.entry m).present = true → (s.roster.entry m).seen = true →
            (s.roster.entry m).reg = some .current →
            t.sync.phase = .posting ∧ t.reg = { s.reg with state := .syncing }
              ∧ ∃ r, t.sync.responder = some r ∧ r ≤ m ∧ newPosts s t = [.sync s.strap r])
        ∧ FrameBut [.reg, .sync, .roster, .line] s t)
    ∧ (∀ h, s.isLead = true → s.axis.state ≠ .parked → s.reg.state = .current → s.cue.held = some h →
        hasKey s.reg.table h.key = false → s.cue.reclaim = .due →
      ∃ t, exec .reClaim s = .next t ∧ newPosts s t = [.claim h.key h.box] ∧ t.cue.reclaim = .posted
        ∧ FrameBut [.line] s t)
    ∧ (∀ x, s.store.swapPending = some x → s.cue.queue = [] → s.store.verify = none → s.store.copy = none →
      (s.store.verified = true →
        ∃ t, exec .swapBegin s = .next t ∧ t.store.copy = some [] ∧ t.store.swapPending = some x
          ∧ t.store.flag.target = (if shadowOf s = .b then 1 else 0) ∧ t.store.working = s.store.working
          ∧ t.store.mem = s.store.mem ∧ newPosts s t = [] ∧ FrameBut [.store] s t)
      ∧ (s.store.verified = false →
        ∃ t, exec .swapBegin s = .next t ∧ Store.sameBut { s.store with swapPending := none } t.store
          ∧ newPosts s t = [.notice ⟨21, x, s.flyer, none, s.store.lastVerified⟩] ∧ FrameBut [.store, .line] s t))

/-- The line interface comes to ON: at the end of LINE-OFF with its spoil count cleared, the owed release and then the owed posts that still apply enqueued; after 100 ms of silence in JOINING, and at the first post of any kind delivered once the station follows posts, with the alone window begun; each time with a PRESENCE asked for. An idle line lets a JOINING station follow posts and ends a post of another's that the station has lost track of; before it a delivered post only restarts the silence (07 R135, R143, R150; 06 R128; 03 R69, R70; 02 R29). Log entries 3, 24, 35 and 38. -/
def Obligations.LineComesOn : Prop :=
  (∀ (x : Nat) (s : State), s.power = .running → s.line.reports = [] → s.line.state = .lineOff →
      s.line.offTimer = some x → s.line.queue = [] → s.cue.owed.length ≤ 7 →
      (∀ o ∈ s.cue.owed, (∃ f g m st r, o.post = .cut f g m st r) ∨ (∃ f g m, o.post = .done f g m)
        ∨ ∃ k, o.post = .release k) →
    ∃ t, exec .lineOffTimerExpiry s = .next t ∧ t.line.state = .on ∧ t.line.txSpoil = 0
      ∧ t.line.offTimer = none ∧ t.line.slot.isSome = true ∧ t.cue.owedRelease = none ∧ t.cue.owed = []
      ∧ newPosts s t = (match s.cue.owedRelease with
            | some k => if hasKey s.reg.table k = true ∧ s.cue.held.map (·.key) ≠ some k then [.release k] else []
            | none => []) ++ (s.cue.owed.filter (stillOwed s)).map (·.post)
      ∧ FrameBut [.cue, .line] s t)
  ∧ (∀ s : State, Calm s →
    (∀ x, s.line.state = .joining → s.line.silence = some x →
      ∃ t, exec .joinSilenceExpiry s = .next t ∧ t.line.state = .on ∧ t.line.silence = none
        ∧ t.line.slot.isSome = true ∧ t.sync = { s.sync with alone := .running } ∧ FrameBut [.line, .sync] s t)
    ∧ (s.line.state = .joining → s.line.watch ≠ .notWatching → s.line.onLine ≠ some .other →
      ∃ t, exec .lineIdleSeen s = .next t ∧ t.line = { s.line with watch := .following } ∧ FrameBut [.line] s t)
    ∧ (s.line.state = .joining → s.line.watch ≠ .notWatching → s.line.onLine = some .other →
      ∃ t, exec .lineIdleSeen s = .next t
        ∧ t.line = { s.line with watch := .following, onLine := none, silence := some 100 } ∧ FrameBut [.line] s t)
    ∧ (s.line.state = .on ∨ s.line.state = .lineOff →
      ∃ t, exec .lineIdleSeen s = .next t
        ∧ t.line = { s.line with onLine := if s.line.onLine = some .other then none else s.line.onLine }
        ∧ FrameBut [.line] s t)
    ∧ (∀ i, ((∃ d, i.delivered = some d) ∨ ∃ n raw, i = .unfittingPost n raw) → s.line.state = .joining →
      (s.line.watch = .following →
        ∃ t, exec i s = .next t ∧ t.line.state = .on ∧ t.line.onLine = none ∧ t.line.silence = none
          ∧ t.line.slot.isSome = true ∧ t.sync = { s.sync with alone := .running } ∧ FrameBut [.line, .sync] s t)
      ∧ (s.line.watch = .awaitIdle →
        ∃ t, exec i s = .next t ∧ t.line = { s.line with silence := some 100, onLine := none }
          ∧ FrameBut [.line] s t)))

/-! ### Invariants and the posts' coding -/

/-- Every step keeps program memory in its canonical form. The form is the model's: log entry 6. -/
def Obligations.StepKeepsMemoryCanonical : Prop :=
  ∀ s t : State, MemoryCanonical s → step s = .next t → MemoryCanonical t

/-- Every step keeps the bounds of the outgoing queue, the cue queue, the wait list and the pending change list, the order of the queued posts' ages, the claim table within 24 entries, and one slot for each member. -/
def Obligations.StepKeepsBounds : Prop :=
  (∀ s t : State, QueuesBounded s → step s = .next t → QueuesBounded t)
  ∧ (∀ s t : State, TableBounded s → step s = .next t → TableBounded t)
  ∧ (∀ s t : State, SlotsFit s → step s = .next t → SlotsFit t)

/-- Every step keeps the laws of the axis, and with them the laws of the register and the run, by which the axis flies only while the claim table holds an entry with the run key of its running cue and the register is CURRENT or STALE (01 R22; 02 R30, R40; 03 R46, R53, R68; 04 R78, R90; 05 R100, R105, R106; 10 R178). -/
def Obligations.StepKeepsAxisLaws : Prop :=
  (∀ s t : State, AxisLaws s → step s = .next t → AxisLaws t)
  ∧ (∀ s t : State, AxisLaws s → RegisterLaws s → step s = .next t →
      RegisterLaws t
        ∧ (t.axis.state = .flying →
            (t.reg.state = .current ∨ t.reg.state = .stale)
              ∧ ∃ c, t.cue.current = some c ∧ c.phase = .running ∧ hasKey t.reg.table c.runKey = true))

/-- Every step keeps the laws of the records, given the laws of the axis, and the station's own writes never leave the lock record and the aloft record both set: where both are stored set they were so before, or START_SEQUENCE read them so (09 R167, R176; 10 R178, R182). -/
def Obligations.StepKeepsRecordLaws : Prop :=
  ∀ s t : State, AxisLaws s → RecordLaws s → step s = .next t →
    RecordLaws t
      ∧ (BothStored t → BothStored s
          ∨ ∃ strap pin inputs rest, s.pending = .startSequence strap pin inputs :: rest)

/-- Every well-formed post decodes from its own frame, no field dropped; and read off the levels its sender drives, whatever levels follow its check, it is the sender's post of that payload, and no station finds a cause to spoil it; where the spoil slot that follows is left recessive for both bit times its close is the post's delivery, and where a station drives it the post ends spoiled (07 R136, R139, R140, R150; 08 R152 to R162). Where a run of levels begins and which runs are followed by an inserted bit: log entry 38. -/
def Obligations.PostsDecodeAsEncoded : Prop :=
  ∀ (p : Post) (n : Fin 48) (rest : List Bool), p.wf = true →
    decodePost (encodePost p) = some p
      ∧ (let f := Received.read ((Frame.of n.val p).coded ++ rest)
         f.sender = n.val ∧ f.length = f.raw.payload.length ∧ f.tail = rest ∧ decodePost f.raw = some p
          ∧ receiveFinding f = none
          ∧ (∀ more, rest = slotLevels false ++ more → f.close none = deliveryOf n p)
          ∧ (∀ more, rest = slotLevels true ++ more → f.close none = .postSpoiled none))
end

