-- ==== Sys2Proof/Laws/Coding.lean ====
section
/-! SUPPORT. The coding of levels: what a receiver takes off the levels a sender drives is the string of bits it coded (07 R150), and where the places of a frame's fields lie in that string. -/

namespace Sys2Proof.Machine

/-- The run of equal levels after a coded string. -/
def Run.after : Run → List Bool → Run
  | r, [] => r
  | r, b :: bs => if (r.next b).length = Run.limit then Run.after ⟨!b, 1⟩ bs else Run.after (r.next b) bs

/-- No coded string ends in a run of the limit's length: the inserted bit has ended it. -/
theorem Run.after_lt (r : Run) (bs : List Bool) (h : r.length < Run.limit) : (Run.after r bs).length < Run.limit := by
  induction bs generalizing r with
  | nil => exact h
  | cons b bs ih =>
    unfold Run.after
    split
    · exact ih _ (by simp [Run.limit])
    · rename_i hn
      refine ih _ ?_
      have : (r.next b).length ≤ r.length + 1 := by
        unfold Run.next; simp only; split <;> omega
      omega

/-- Coded strings join: the second is coded from the run in which the first ends. -/
theorem insertBits_append (r : Run) (as bs : List Bool) :
    insertBits r (as ++ bs) = insertBits r as ++ insertBits (Run.after r as) bs := by
  induction as generalizing r with
  | nil => rfl
  | cons a as ih =>
    simp only [List.cons_append, insertBits, Run.after]
    split <;> simp [ih]

/-- The bits taken off coded levels are the bits coded, and the levels after them are left. -/
theorem takeBits_insertBits (bs rest : List Bool) (r : Run) (h : r.length < Run.limit) :
    takeBits (insertBits r bs ++ rest) bs.length r = some (bs, rest) := by
  induction bs generalizing r with
  | nil =>
    have h0 : r.length ≠ Run.limit := Nat.ne_of_lt h
    cases rest <;> simp [insertBits, takeBits, h0]
  | cons b bs ih =>
    have h0 : r.length ≠ Run.limit := Nat.ne_of_lt h
    by_cases hn : (r.next b).length = Run.limit
    · have hb : (!b) ≠ (r.next b).level := by cases b <;> simp [Run.next]
      simp [insertBits, takeBits, h0, hn, hb, ih ⟨!b, 1⟩ (by simp [Run.limit])]
    · have hlt : (r.next b).length < Run.limit := by
        have : (r.next b).length ≤ r.length + 1 := by
          unfold Run.next; simp only; split <;> omega
        omega
      simp [insertBits, takeBits, h0, hn, ih _ hlt]

/-- A frame's header, payload and check have as many bits as R150 and R152 count. -/
theorem Frame.bits_length (f : Frame) : f.bits.length = 36 + 8 * f.raw.payload.length := by
  have h : ∀ bs : List Byte, (bs.flatMap (fun b => bitsOf 8 b.toNat)).length = 8 * bs.length := by
    intro bs
    induction bs with
    | nil => rfl
    | cons b bs ih => simp only [List.flatMap_cons, List.length_append, ih, List.length_cons]; simp [bitsOf]; omega
  simp only [Frame.bits, frameBits, List.length_append, List.length_cons, h]
  simp [bitsOf]
  omega

/-- A receiver takes the whole of a frame's bits off the levels its sender drives. -/
theorem takeBits_frame (f : Frame) (rest : List Bool) :
    takeBits (insertBits Run.start f.bits ++ rest) (36 + 8 * f.raw.payload.length) Run.start = some (f.bits, rest) := by
  rw [← Frame.bits_length f]
  exact takeBits_insertBits f.bits rest Run.start (by decide)

/-- A sender that reads back what it drives drives all of it. -/
theorem sent_undisturbed (ds : List Bool) : sent ds ds = ds := by
  induction ds with
  | nil => rfl
  | cons d ds ih => simp [sent, ih]

/-- A sender drives one level at each bit time of the fields, and the line without other stations shows it (07 R138, R150). -/
theorem sent_length (ds rs : List Bool) : (sent ds rs).length = rs.length := by
  induction rs generalizing ds with
  | nil => cases ds <;> rfl
  | cons r rs ih =>
    cases ds with
    | nil => simp [sent, ih]
    | cons d ds =>
      unfold sent
      split <;> simp [ih]

/-- After the first level read back that is not the one it drove, a sender drives nothing. -/
theorem sent_stops (pre ds rs : List Bool) (d r : Bool) (h : d ≠ r) :
    sent (pre ++ d :: ds) (pre ++ r :: rs) = pre ++ d :: rs.map (fun _ => true) := by
  induction pre with
  | nil => simp [sent, h]
  | cons p pre ih => simp [sent, ih]

/-- A slot that a station drives is read as driven, and one left recessive as undriven (07 R136, R150). -/
theorem Received.undriven_of_tail (f : Received) (spoils : Bool) (more : List Bool)
    (h : f.tail = slotLevels spoils ++ more) : f.undriven = !spoils := by
  unfold Received.undriven Received.slot
  rw [h]
  cases spoils <;> simp [slotLevels, slotBits]

/-- A post whose slot was driven is spoiled, whatever the station found itself (07 R136). -/
theorem Received.close_driven (f : Received) (finding : Option SpoilCause) (h : f.undriven = false) :
    f.close finding = .postSpoiled finding := by
  unfold Received.close
  simp [h]

/-- A post of which the station found a cause is spoiled (07 R135, R139). -/
theorem Received.close_found (f : Received) (c : SpoilCause) : f.close (some c) = .postSpoiled (some c) := by
  unfold Received.close
  simp

/-- A post whose slot stayed undriven and of which the station found nothing is delivered (07 R136, R140). -/
theorem Received.close_undriven (f : Received) (hu : f.undriven = true) (hs : f.sender < 48) :
    f.close none = commandOf ⟨f.sender, hs⟩ f.raw := by
  unfold Received.close
  simp [hu, hs]

theorem bitsOf_succ (w n : Nat) : bitsOf (w + 1) n = hasBit n w :: bitsOf w n := by
  simp only [bitsOf, List.range_succ_eq_map, List.map_cons, List.map_map]
  refine congrArg₂ List.cons (by simp) (List.map_congr_left ?_)
  intro i _
  simp only [Function.comp]
  congr 1
  omega

/-- Reading the `w` low bits of a number on from `a` shifts `a` up and adds what they spell. -/
theorem foldl_bitsOf (w n a : Nat) :
    (bitsOf w n).foldl (fun m b => 2 * m + b.toNat) a = a * 2 ^ w + n % 2 ^ w := by
  induction w generalizing a with
  | zero => simp [bitsOf, Nat.mod_one]
  | succ w ih =>
    rw [bitsOf_succ, List.foldl_cons, ih]
    have hb : (hasBit n w).toNat = n / 2 ^ w % 2 := by
      unfold hasBit
      rcases Nat.mod_two_eq_zero_or_one (n / 2 ^ w) with h | h <;> simp [h]
    rw [hb, Nat.pow_succ, Nat.mod_mul]
    ring

/-- A number below `2 ^ w` is what its `w` bits spell (08 R152). -/
theorem numOf_bitsOf (w n : Nat) (h : n < 2 ^ w) : numOf (bitsOf w n) = n := by
  rw [numOf, foldl_bitsOf, Nat.mod_eq_of_lt h]
  simp

end Sys2Proof.Machine
end

