-- ==== Sys2Proof/Laws/State.lean ====
section
/-! SUPPORT. One lemma for each field of State and each update of a block of it; all hold by rfl. -/

namespace Sys2Proof.Machine

@[simp] theorem State.withPower_power (s : State) (v : Power) : (s.withPower v).power = v := rfl
@[simp] theorem State.withPower_strap (s : State) (v : Power) : (s.withPower v).strap = s.strap := rfl
@[simp] theorem State.withPower_cfg (s : State) (v : Power) : (s.withPower v).cfg = s.cfg := rfl
@[simp] theorem State.withPower_reg (s : State) (v : Power) : (s.withPower v).reg = s.reg := rfl
@[simp] theorem State.withPower_sync (s : State) (v : Power) : (s.withPower v).sync = s.sync := rfl
@[simp] theorem State.withPower_cue (s : State) (v : Power) : (s.withPower v).cue = s.cue := rfl
@[simp] theorem State.withPower_engine (s : State) (v : Power) : (s.withPower v).engine = s.engine := rfl
@[simp] theorem State.withPower_axis (s : State) (v : Power) : (s.withPower v).axis = s.axis := rfl
@[simp] theorem State.withPower_roster (s : State) (v : Power) : (s.withPower v).roster = s.roster := rfl
@[simp] theorem State.withPower_line (s : State) (v : Power) : (s.withPower v).line = s.line := rfl
@[simp] theorem State.withPower_store (s : State) (v : Power) : (s.withPower v).store = s.store := rfl
@[simp] theorem State.withPower_lock (s : State) (v : Power) : (s.withPower v).lock = s.lock := rfl
@[simp] theorem State.withPower_freeCount (s : State) (v : Power) : (s.withPower v).freeCount = s.freeCount := rfl
@[simp] theorem State.withPower_pending (s : State) (v : Power) : (s.withPower v).pending = s.pending := rfl

@[simp] theorem State.withStrap_power (s : State) (v : Nat) : (s.withStrap v).power = s.power := rfl
@[simp] theorem State.withStrap_strap (s : State) (v : Nat) : (s.withStrap v).strap = v := rfl
@[simp] theorem State.withStrap_cfg (s : State) (v : Nat) : (s.withStrap v).cfg = s.cfg := rfl
@[simp] theorem State.withStrap_reg (s : State) (v : Nat) : (s.withStrap v).reg = s.reg := rfl
@[simp] theorem State.withStrap_sync (s : State) (v : Nat) : (s.withStrap v).sync = s.sync := rfl
@[simp] theorem State.withStrap_cue (s : State) (v : Nat) : (s.withStrap v).cue = s.cue := rfl
@[simp] theorem State.withStrap_engine (s : State) (v : Nat) : (s.withStrap v).engine = s.engine := rfl
@[simp] theorem State.withStrap_axis (s : State) (v : Nat) : (s.withStrap v).axis = s.axis := rfl
@[simp] theorem State.withStrap_roster (s : State) (v : Nat) : (s.withStrap v).roster = s.roster := rfl
@[simp] theorem State.withStrap_line (s : State) (v : Nat) : (s.withStrap v).line = s.line := rfl
@[simp] theorem State.withStrap_store (s : State) (v : Nat) : (s.withStrap v).store = s.store := rfl
@[simp] theorem State.withStrap_lock (s : State) (v : Nat) : (s.withStrap v).lock = s.lock := rfl
@[simp] theorem State.withStrap_freeCount (s : State) (v : Nat) : (s.withStrap v).freeCount = s.freeCount := rfl
@[simp] theorem State.withStrap_pending (s : State) (v : Nat) : (s.withStrap v).pending = s.pending := rfl

@[simp] theorem State.withCfg_power (s : State) (v : Option StationConfig) : (s.withCfg v).power = s.power := rfl
@[simp] theorem State.withCfg_strap (s : State) (v : Option StationConfig) : (s.withCfg v).strap = s.strap := rfl
@[simp] theorem State.withCfg_cfg (s : State) (v : Option StationConfig) : (s.withCfg v).cfg = v := rfl
@[simp] theorem State.withCfg_reg (s : State) (v : Option StationConfig) : (s.withCfg v).reg = s.reg := rfl
@[simp] theorem State.withCfg_sync (s : State) (v : Option StationConfig) : (s.withCfg v).sync = s.sync := rfl
@[simp] theorem State.withCfg_cue (s : State) (v : Option StationConfig) : (s.withCfg v).cue = s.cue := rfl
@[simp] theorem State.withCfg_engine (s : State) (v : Option StationConfig) : (s.withCfg v).engine = s.engine := rfl
@[simp] theorem State.withCfg_axis (s : State) (v : Option StationConfig) : (s.withCfg v).axis = s.axis := rfl
@[simp] theorem State.withCfg_roster (s : State) (v : Option StationConfig) : (s.withCfg v).roster = s.roster := rfl
@[simp] theorem State.withCfg_line (s : State) (v : Option StationConfig) : (s.withCfg v).line = s.line := rfl
@[simp] theorem State.withCfg_store (s : State) (v : Option StationConfig) : (s.withCfg v).store = s.store := rfl
@[simp] theorem State.withCfg_lock (s : State) (v : Option StationConfig) : (s.withCfg v).lock = s.lock := rfl
@[simp] theorem State.withCfg_freeCount (s : State) (v : Option StationConfig) : (s.withCfg v).freeCount = s.freeCount := rfl
@[simp] theorem State.withCfg_pending (s : State) (v : Option StationConfig) : (s.withCfg v).pending = s.pending := rfl

@[simp] theorem State.withReg_power (s : State) (v : AirRegister) : (s.withReg v).power = s.power := rfl
@[simp] theorem State.withReg_strap (s : State) (v : AirRegister) : (s.withReg v).strap = s.strap := rfl
@[simp] theorem State.withReg_cfg (s : State) (v : AirRegister) : (s.withReg v).cfg = s.cfg := rfl
@[simp] theorem State.withReg_reg (s : State) (v : AirRegister) : (s.withReg v).reg = v := rfl
@[simp] theorem State.withReg_sync (s : State) (v : AirRegister) : (s.withReg v).sync = s.sync := rfl
@[simp] theorem State.withReg_cue (s : State) (v : AirRegister) : (s.withReg v).cue = s.cue := rfl
@[simp] theorem State.withReg_engine (s : State) (v : AirRegister) : (s.withReg v).engine = s.engine := rfl
@[simp] theorem State.withReg_axis (s : State) (v : AirRegister) : (s.withReg v).axis = s.axis := rfl
@[simp] theorem State.withReg_roster (s : State) (v : AirRegister) : (s.withReg v).roster = s.roster := rfl
@[simp] theorem State.withReg_line (s : State) (v : AirRegister) : (s.withReg v).line = s.line := rfl
@[simp] theorem State.withReg_store (s : State) (v : AirRegister) : (s.withReg v).store = s.store := rfl
@[simp] theorem State.withReg_lock (s : State) (v : AirRegister) : (s.withReg v).lock = s.lock := rfl
@[simp] theorem State.withReg_freeCount (s : State) (v : AirRegister) : (s.withReg v).freeCount = s.freeCount := rfl
@[simp] theorem State.withReg_pending (s : State) (v : AirRegister) : (s.withReg v).pending = s.pending := rfl

@[simp] theorem State.withSync_power (s : State) (v : SyncUnit) : (s.withSync v).power = s.power := rfl
@[simp] theorem State.withSync_strap (s : State) (v : SyncUnit) : (s.withSync v).strap = s.strap := rfl
@[simp] theorem State.withSync_cfg (s : State) (v : SyncUnit) : (s.withSync v).cfg = s.cfg := rfl
@[simp] theorem State.withSync_reg (s : State) (v : SyncUnit) : (s.withSync v).reg = s.reg := rfl
@[simp] theorem State.withSync_sync (s : State) (v : SyncUnit) : (s.withSync v).sync = v := rfl
@[simp] theorem State.withSync_cue (s : State) (v : SyncUnit) : (s.withSync v).cue = s.cue := rfl
@[simp] theorem State.withSync_engine (s : State) (v : SyncUnit) : (s.withSync v).engine = s.engine := rfl
@[simp] theorem State.withSync_axis (s : State) (v : SyncUnit) : (s.withSync v).axis = s.axis := rfl
@[simp] theorem State.withSync_roster (s : State) (v : SyncUnit) : (s.withSync v).roster = s.roster := rfl
@[simp] theorem State.withSync_line (s : State) (v : SyncUnit) : (s.withSync v).line = s.line := rfl
@[simp] theorem State.withSync_store (s : State) (v : SyncUnit) : (s.withSync v).store = s.store := rfl
@[simp] theorem State.withSync_lock (s : State) (v : SyncUnit) : (s.withSync v).lock = s.lock := rfl
@[simp] theorem State.withSync_freeCount (s : State) (v : SyncUnit) : (s.withSync v).freeCount = s.freeCount := rfl
@[simp] theorem State.withSync_pending (s : State) (v : SyncUnit) : (s.withSync v).pending = s.pending := rfl

@[simp] theorem State.withCue_power (s : State) (v : CueUnit) : (s.withCue v).power = s.power := rfl
@[simp] theorem State.withCue_strap (s : State) (v : CueUnit) : (s.withCue v).strap = s.strap := rfl
@[simp] theorem State.withCue_cfg (s : State) (v : CueUnit) : (s.withCue v).cfg = s.cfg := rfl
@[simp] theorem State.withCue_reg (s : State) (v : CueUnit) : (s.withCue v).reg = s.reg := rfl
@[simp] theorem State.withCue_sync (s : State) (v : CueUnit) : (s.withCue v).sync = s.sync := rfl
@[simp] theorem State.withCue_cue (s : State) (v : CueUnit) : (s.withCue v).cue = v := rfl
@[simp] theorem State.withCue_engine (s : State) (v : CueUnit) : (s.withCue v).engine = s.engine := rfl
@[simp] theorem State.withCue_axis (s : State) (v : CueUnit) : (s.withCue v).axis = s.axis := rfl
@[simp] theorem State.withCue_roster (s : State) (v : CueUnit) : (s.withCue v).roster = s.roster := rfl
@[simp] theorem State.withCue_line (s : State) (v : CueUnit) : (s.withCue v).line = s.line := rfl
@[simp] theorem State.withCue_store (s : State) (v : CueUnit) : (s.withCue v).store = s.store := rfl
@[simp] theorem State.withCue_lock (s : State) (v : CueUnit) : (s.withCue v).lock = s.lock := rfl
@[simp] theorem State.withCue_freeCount (s : State) (v : CueUnit) : (s.withCue v).freeCount = s.freeCount := rfl
@[simp] theorem State.withCue_pending (s : State) (v : CueUnit) : (s.withCue v).pending = s.pending := rfl

@[simp] theorem State.withEngine_power (s : State) (v : Engine) : (s.withEngine v).power = s.power := rfl
@[simp] theorem State.withEngine_strap (s : State) (v : Engine) : (s.withEngine v).strap = s.strap := rfl
@[simp] theorem State.withEngine_cfg (s : State) (v : Engine) : (s.withEngine v).cfg = s.cfg := rfl
@[simp] theorem State.withEngine_reg (s : State) (v : Engine) : (s.withEngine v).reg = s.reg := rfl
@[simp] theorem State.withEngine_sync (s : State) (v : Engine) : (s.withEngine v).sync = s.sync := rfl
@[simp] theorem State.withEngine_cue (s : State) (v : Engine) : (s.withEngine v).cue = s.cue := rfl
@[simp] theorem State.withEngine_engine (s : State) (v : Engine) : (s.withEngine v).engine = v := rfl
@[simp] theorem State.withEngine_axis (s : State) (v : Engine) : (s.withEngine v).axis = s.axis := rfl
@[simp] theorem State.withEngine_roster (s : State) (v : Engine) : (s.withEngine v).roster = s.roster := rfl
@[simp] theorem State.withEngine_line (s : State) (v : Engine) : (s.withEngine v).line = s.line := rfl
@[simp] theorem State.withEngine_store (s : State) (v : Engine) : (s.withEngine v).store = s.store := rfl
@[simp] theorem State.withEngine_lock (s : State) (v : Engine) : (s.withEngine v).lock = s.lock := rfl
@[simp] theorem State.withEngine_freeCount (s : State) (v : Engine) : (s.withEngine v).freeCount = s.freeCount := rfl
@[simp] theorem State.withEngine_pending (s : State) (v : Engine) : (s.withEngine v).pending = s.pending := rfl

@[simp] theorem State.withAxis_power (s : State) (v : Axis) : (s.withAxis v).power = s.power := rfl
@[simp] theorem State.withAxis_strap (s : State) (v : Axis) : (s.withAxis v).strap = s.strap := rfl
@[simp] theorem State.withAxis_cfg (s : State) (v : Axis) : (s.withAxis v).cfg = s.cfg := rfl
@[simp] theorem State.withAxis_reg (s : State) (v : Axis) : (s.withAxis v).reg = s.reg := rfl
@[simp] theorem State.withAxis_sync (s : State) (v : Axis) : (s.withAxis v).sync = s.sync := rfl
@[simp] theorem State.withAxis_cue (s : State) (v : Axis) : (s.withAxis v).cue = s.cue := rfl
@[simp] theorem State.withAxis_engine (s : State) (v : Axis) : (s.withAxis v).engine = s.engine := rfl
@[simp] theorem State.withAxis_axis (s : State) (v : Axis) : (s.withAxis v).axis = v := rfl
@[simp] theorem State.withAxis_roster (s : State) (v : Axis) : (s.withAxis v).roster = s.roster := rfl
@[simp] theorem State.withAxis_line (s : State) (v : Axis) : (s.withAxis v).line = s.line := rfl
@[simp] theorem State.withAxis_store (s : State) (v : Axis) : (s.withAxis v).store = s.store := rfl
@[simp] theorem State.withAxis_lock (s : State) (v : Axis) : (s.withAxis v).lock = s.lock := rfl
@[simp] theorem State.withAxis_freeCount (s : State) (v : Axis) : (s.withAxis v).freeCount = s.freeCount := rfl
@[simp] theorem State.withAxis_pending (s : State) (v : Axis) : (s.withAxis v).pending = s.pending := rfl

@[simp] theorem State.withRoster_power (s : State) (v : Roster) : (s.withRoster v).power = s.power := rfl
@[simp] theorem State.withRoster_strap (s : State) (v : Roster) : (s.withRoster v).strap = s.strap := rfl
@[simp] theorem State.withRoster_cfg (s : State) (v : Roster) : (s.withRoster v).cfg = s.cfg := rfl
@[simp] theorem State.withRoster_reg (s : State) (v : Roster) : (s.withRoster v).reg = s.reg := rfl
@[simp] theorem State.withRoster_sync (s : State) (v : Roster) : (s.withRoster v).sync = s.sync := rfl
@[simp] theorem State.withRoster_cue (s : State) (v : Roster) : (s.withRoster v).cue = s.cue := rfl
@[simp] theorem State.withRoster_engine (s : State) (v : Roster) : (s.withRoster v).engine = s.engine := rfl
@[simp] theorem State.withRoster_axis (s : State) (v : Roster) : (s.withRoster v).axis = s.axis := rfl
@[simp] theorem State.withRoster_roster (s : State) (v : Roster) : (s.withRoster v).roster = v := rfl
@[simp] theorem State.withRoster_line (s : State) (v : Roster) : (s.withRoster v).line = s.line := rfl
@[simp] theorem State.withRoster_store (s : State) (v : Roster) : (s.withRoster v).store = s.store := rfl
@[simp] theorem State.withRoster_lock (s : State) (v : Roster) : (s.withRoster v).lock = s.lock := rfl
@[simp] theorem State.withRoster_freeCount (s : State) (v : Roster) : (s.withRoster v).freeCount = s.freeCount := rfl
@[simp] theorem State.withRoster_pending (s : State) (v : Roster) : (s.withRoster v).pending = s.pending := rfl

@[simp] theorem State.withLine_power (s : State) (v : Line) : (s.withLine v).power = s.power := rfl
@[simp] theorem State.withLine_strap (s : State) (v : Line) : (s.withLine v).strap = s.strap := rfl
@[simp] theorem State.withLine_cfg (s : State) (v : Line) : (s.withLine v).cfg = s.cfg := rfl
@[simp] theorem State.withLine_reg (s : State) (v : Line) : (s.withLine v).reg = s.reg := rfl
@[simp] theorem State.withLine_sync (s : State) (v : Line) : (s.withLine v).sync = s.sync := rfl
@[simp] theorem State.withLine_cue (s : State) (v : Line) : (s.withLine v).cue = s.cue := rfl
@[simp] theorem State.withLine_engine (s : State) (v : Line) : (s.withLine v).engine = s.engine := rfl
@[simp] theorem State.withLine_axis (s : State) (v : Line) : (s.withLine v).axis = s.axis := rfl
@[simp] theorem State.withLine_roster (s : State) (v : Line) : (s.withLine v).roster = s.roster := rfl
@[simp] theorem State.withLine_line (s : State) (v : Line) : (s.withLine v).line = v := rfl
@[simp] theorem State.withLine_store (s : State) (v : Line) : (s.withLine v).store = s.store := rfl
@[simp] theorem State.withLine_lock (s : State) (v : Line) : (s.withLine v).lock = s.lock := rfl
@[simp] theorem State.withLine_freeCount (s : State) (v : Line) : (s.withLine v).freeCount = s.freeCount := rfl
@[simp] theorem State.withLine_pending (s : State) (v : Line) : (s.withLine v).pending = s.pending := rfl

@[simp] theorem State.withStore_power (s : State) (v : Store) : (s.withStore v).power = s.power := rfl
@[simp] theorem State.withStore_strap (s : State) (v : Store) : (s.withStore v).strap = s.strap := rfl
@[simp] theorem State.withStore_cfg (s : State) (v : Store) : (s.withStore v).cfg = s.cfg := rfl
@[simp] theorem State.withStore_reg (s : State) (v : Store) : (s.withStore v).reg = s.reg := rfl
@[simp] theorem State.withStore_sync (s : State) (v : Store) : (s.withStore v).sync = s.sync := rfl
@[simp] theorem State.withStore_cue (s : State) (v : Store) : (s.withStore v).cue = s.cue := rfl
@[simp] theorem State.withStore_engine (s : State) (v : Store) : (s.withStore v).engine = s.engine := rfl
@[simp] theorem State.withStore_axis (s : State) (v : Store) : (s.withStore v).axis = s.axis := rfl
@[simp] theorem State.withStore_roster (s : State) (v : Store) : (s.withStore v).roster = s.roster := rfl
@[simp] theorem State.withStore_line (s : State) (v : Store) : (s.withStore v).line = s.line := rfl
@[simp] theorem State.withStore_store (s : State) (v : Store) : (s.withStore v).store = v := rfl
@[simp] theorem State.withStore_lock (s : State) (v : Store) : (s.withStore v).lock = s.lock := rfl
@[simp] theorem State.withStore_freeCount (s : State) (v : Store) : (s.withStore v).freeCount = s.freeCount := rfl
@[simp] theorem State.withStore_pending (s : State) (v : Store) : (s.withStore v).pending = s.pending := rfl

@[simp] theorem State.withLock_power (s : State) (v : LockUnit) : (s.withLock v).power = s.power := rfl
@[simp] theorem State.withLock_strap (s : State) (v : LockUnit) : (s.withLock v).strap = s.strap := rfl
@[simp] theorem State.withLock_cfg (s : State) (v : LockUnit) : (s.withLock v).cfg = s.cfg := rfl
@[simp] theorem State.withLock_reg (s : State) (v : LockUnit) : (s.withLock v).reg = s.reg := rfl
@[simp] theorem State.withLock_sync (s : State) (v : LockUnit) : (s.withLock v).sync = s.sync := rfl
@[simp] theorem State.withLock_cue (s : State) (v : LockUnit) : (s.withLock v).cue = s.cue := rfl
@[simp] theorem State.withLock_engine (s : State) (v : LockUnit) : (s.withLock v).engine = s.engine := rfl
@[simp] theorem State.withLock_axis (s : State) (v : LockUnit) : (s.withLock v).axis = s.axis := rfl
@[simp] theorem State.withLock_roster (s : State) (v : LockUnit) : (s.withLock v).roster = s.roster := rfl
@[simp] theorem State.withLock_line (s : State) (v : LockUnit) : (s.withLock v).line = s.line := rfl
@[simp] theorem State.withLock_store (s : State) (v : LockUnit) : (s.withLock v).store = s.store := rfl
@[simp] theorem State.withLock_lock (s : State) (v : LockUnit) : (s.withLock v).lock = v := rfl
@[simp] theorem State.withLock_freeCount (s : State) (v : LockUnit) : (s.withLock v).freeCount = s.freeCount := rfl
@[simp] theorem State.withLock_pending (s : State) (v : LockUnit) : (s.withLock v).pending = s.pending := rfl

@[simp] theorem State.withFreeCount_power (s : State) (v : Nat) : (s.withFreeCount v).power = s.power := rfl
@[simp] theorem State.withFreeCount_strap (s : State) (v : Nat) : (s.withFreeCount v).strap = s.strap := rfl
@[simp] theorem State.withFreeCount_cfg (s : State) (v : Nat) : (s.withFreeCount v).cfg = s.cfg := rfl
@[simp] theorem State.withFreeCount_reg (s : State) (v : Nat) : (s.withFreeCount v).reg = s.reg := rfl
@[simp] theorem State.withFreeCount_sync (s : State) (v : Nat) : (s.withFreeCount v).sync = s.sync := rfl
@[simp] theorem State.withFreeCount_cue (s : State) (v : Nat) : (s.withFreeCount v).cue = s.cue := rfl
@[simp] theorem State.withFreeCount_engine (s : State) (v : Nat) : (s.withFreeCount v).engine = s.engine := rfl
@[simp] theorem State.withFreeCount_axis (s : State) (v : Nat) : (s.withFreeCount v).axis = s.axis := rfl
@[simp] theorem State.withFreeCount_roster (s : State) (v : Nat) : (s.withFreeCount v).roster = s.roster := rfl
@[simp] theorem State.withFreeCount_line (s : State) (v : Nat) : (s.withFreeCount v).line = s.line := rfl
@[simp] theorem State.withFreeCount_store (s : State) (v : Nat) : (s.withFreeCount v).store = s.store := rfl
@[simp] theorem State.withFreeCount_lock (s : State) (v : Nat) : (s.withFreeCount v).lock = s.lock := rfl
@[simp] theorem State.withFreeCount_freeCount (s : State) (v : Nat) : (s.withFreeCount v).freeCount = v := rfl
@[simp] theorem State.withFreeCount_pending (s : State) (v : Nat) : (s.withFreeCount v).pending = s.pending := rfl

@[simp] theorem State.withPending_power (s : State) (v : List Instr) : (s.withPending v).power = s.power := rfl
@[simp] theorem State.withPending_strap (s : State) (v : List Instr) : (s.withPending v).strap = s.strap := rfl
@[simp] theorem State.withPending_cfg (s : State) (v : List Instr) : (s.withPending v).cfg = s.cfg := rfl
@[simp] theorem State.withPending_reg (s : State) (v : List Instr) : (s.withPending v).reg = s.reg := rfl
@[simp] theorem State.withPending_sync (s : State) (v : List Instr) : (s.withPending v).sync = s.sync := rfl
@[simp] theorem State.withPending_cue (s : State) (v : List Instr) : (s.withPending v).cue = s.cue := rfl
@[simp] theorem State.withPending_engine (s : State) (v : List Instr) : (s.withPending v).engine = s.engine := rfl
@[simp] theorem State.withPending_axis (s : State) (v : List Instr) : (s.withPending v).axis = s.axis := rfl
@[simp] theorem State.withPending_roster (s : State) (v : List Instr) : (s.withPending v).roster = s.roster := rfl
@[simp] theorem State.withPending_line (s : State) (v : List Instr) : (s.withPending v).line = s.line := rfl
@[simp] theorem State.withPending_store (s : State) (v : List Instr) : (s.withPending v).store = s.store := rfl
@[simp] theorem State.withPending_lock (s : State) (v : List Instr) : (s.withPending v).lock = s.lock := rfl
@[simp] theorem State.withPending_freeCount (s : State) (v : List Instr) : (s.withPending v).freeCount = s.freeCount := rfl
@[simp] theorem State.withPending_pending (s : State) (v : List Instr) : (s.withPending v).pending = v := rfl

end Sys2Proof.Machine
end

