-- ==== Sys2Proof/Laws/Posting.lean ====
section
/-! SUPPORT. Posting, asking for a PRESENCE and withdrawing change the line interface alone. -/

namespace Sys2Proof.Machine

@[simp] theorem State.post_power (s : State) (p : Post) : (s.post p).power = s.power := rfl
@[simp] theorem State.post_strap (s : State) (p : Post) : (s.post p).strap = s.strap := rfl
@[simp] theorem State.post_cfg (s : State) (p : Post) : (s.post p).cfg = s.cfg := rfl
@[simp] theorem State.post_reg (s : State) (p : Post) : (s.post p).reg = s.reg := rfl
@[simp] theorem State.post_sync (s : State) (p : Post) : (s.post p).sync = s.sync := rfl
@[simp] theorem State.post_cue (s : State) (p : Post) : (s.post p).cue = s.cue := rfl
@[simp] theorem State.post_engine (s : State) (p : Post) : (s.post p).engine = s.engine := rfl
@[simp] theorem State.post_axis (s : State) (p : Post) : (s.post p).axis = s.axis := rfl
@[simp] theorem State.post_roster (s : State) (p : Post) : (s.post p).roster = s.roster := rfl
@[simp] theorem State.post_store (s : State) (p : Post) : (s.post p).store = s.store := rfl
@[simp] theorem State.post_lock (s : State) (p : Post) : (s.post p).lock = s.lock := rfl
@[simp] theorem State.post_freeCount (s : State) (p : Post) : (s.post p).freeCount = s.freeCount := rfl
@[simp] theorem State.post_pending (s : State) (p : Post) : (s.post p).pending = s.pending := rfl

@[simp] theorem State.postFor_power (s : State) (u : PostUse) (p : Post) : (s.postFor u p).power = s.power := rfl
@[simp] theorem State.postFor_strap (s : State) (u : PostUse) (p : Post) : (s.postFor u p).strap = s.strap := rfl
@[simp] theorem State.postFor_cfg (s : State) (u : PostUse) (p : Post) : (s.postFor u p).cfg = s.cfg := rfl
@[simp] theorem State.postFor_reg (s : State) (u : PostUse) (p : Post) : (s.postFor u p).reg = s.reg := rfl
@[simp] theorem State.postFor_sync (s : State) (u : PostUse) (p : Post) : (s.postFor u p).sync = s.sync := rfl
@[simp] theorem State.postFor_cue (s : State) (u : PostUse) (p : Post) : (s.postFor u p).cue = s.cue := rfl
@[simp] theorem State.postFor_engine (s : State) (u : PostUse) (p : Post) : (s.postFor u p).engine = s.engine := rfl
@[simp] theorem State.postFor_axis (s : State) (u : PostUse) (p : Post) : (s.postFor u p).axis = s.axis := rfl
@[simp] theorem State.postFor_roster (s : State) (u : PostUse) (p : Post) : (s.postFor u p).roster = s.roster := rfl
@[simp] theorem State.postFor_store (s : State) (u : PostUse) (p : Post) : (s.postFor u p).store = s.store := rfl
@[simp] theorem State.postFor_lock (s : State) (u : PostUse) (p : Post) : (s.postFor u p).lock = s.lock := rfl
@[simp] theorem State.postFor_freeCount (s : State) (u : PostUse) (p : Post) : (s.postFor u p).freeCount = s.freeCount := rfl
@[simp] theorem State.postFor_pending (s : State) (u : PostUse) (p : Post) : (s.postFor u p).pending = s.pending := rfl

@[simp] theorem State.notice_power (s : State) (c : NoticeCode) (n : Nat) (g : Option Nat) (d : Nat) : (s.notice c n g d).power = s.power := rfl
@[simp] theorem State.notice_strap (s : State) (c : NoticeCode) (n : Nat) (g : Option Nat) (d : Nat) : (s.notice c n g d).strap = s.strap := rfl
@[simp] theorem State.notice_cfg (s : State) (c : NoticeCode) (n : Nat) (g : Option Nat) (d : Nat) : (s.notice c n g d).cfg = s.cfg := rfl
@[simp] theorem State.notice_reg (s : State) (c : NoticeCode) (n : Nat) (g : Option Nat) (d : Nat) : (s.notice c n g d).reg = s.reg := rfl
@[simp] theorem State.notice_sync (s : State) (c : NoticeCode) (n : Nat) (g : Option Nat) (d : Nat) : (s.notice c n g d).sync = s.sync := rfl
@[simp] theorem State.notice_cue (s : State) (c : NoticeCode) (n : Nat) (g : Option Nat) (d : Nat) : (s.notice c n g d).cue = s.cue := rfl
@[simp] theorem State.notice_engine (s : State) (c : NoticeCode) (n : Nat) (g : Option Nat) (d : Nat) : (s.notice c n g d).engine = s.engine := rfl
@[simp] theorem State.notice_axis (s : State) (c : NoticeCode) (n : Nat) (g : Option Nat) (d : Nat) : (s.notice c n g d).axis = s.axis := rfl
@[simp] theorem State.notice_roster (s : State) (c : NoticeCode) (n : Nat) (g : Option Nat) (d : Nat) : (s.notice c n g d).roster = s.roster := rfl
@[simp] theorem State.notice_store (s : State) (c : NoticeCode) (n : Nat) (g : Option Nat) (d : Nat) : (s.notice c n g d).store = s.store := rfl
@[simp] theorem State.notice_lock (s : State) (c : NoticeCode) (n : Nat) (g : Option Nat) (d : Nat) : (s.notice c n g d).lock = s.lock := rfl
@[simp] theorem State.notice_freeCount (s : State) (c : NoticeCode) (n : Nat) (g : Option Nat) (d : Nat) : (s.notice c n g d).freeCount = s.freeCount := rfl
@[simp] theorem State.notice_pending (s : State) (c : NoticeCode) (n : Nat) (g : Option Nat) (d : Nat) : (s.notice c n g d).pending = s.pending := rfl

@[simp] theorem State.askPresence_power (s : State) : s.askPresence.power = s.power := rfl
@[simp] theorem State.askPresence_strap (s : State) : s.askPresence.strap = s.strap := rfl
@[simp] theorem State.askPresence_cfg (s : State) : s.askPresence.cfg = s.cfg := rfl
@[simp] theorem State.askPresence_reg (s : State) : s.askPresence.reg = s.reg := rfl
@[simp] theorem State.askPresence_sync (s : State) : s.askPresence.sync = s.sync := rfl
@[simp] theorem State.askPresence_cue (s : State) : s.askPresence.cue = s.cue := rfl
@[simp] theorem State.askPresence_engine (s : State) : s.askPresence.engine = s.engine := rfl
@[simp] theorem State.askPresence_axis (s : State) : s.askPresence.axis = s.axis := rfl
@[simp] theorem State.askPresence_roster (s : State) : s.askPresence.roster = s.roster := rfl
@[simp] theorem State.askPresence_store (s : State) : s.askPresence.store = s.store := rfl
@[simp] theorem State.askPresence_lock (s : State) : s.askPresence.lock = s.lock := rfl
@[simp] theorem State.askPresence_freeCount (s : State) : s.askPresence.freeCount = s.freeCount := rfl
@[simp] theorem State.askPresence_pending (s : State) : s.askPresence.pending = s.pending := rfl

@[simp] theorem State.withdraw_power (s : State) (f : OutPost → Bool) : (s.withdraw f).power = s.power := rfl
@[simp] theorem State.withdraw_strap (s : State) (f : OutPost → Bool) : (s.withdraw f).strap = s.strap := rfl
@[simp] theorem State.withdraw_cfg (s : State) (f : OutPost → Bool) : (s.withdraw f).cfg = s.cfg := rfl
@[simp] theorem State.withdraw_reg (s : State) (f : OutPost → Bool) : (s.withdraw f).reg = s.reg := rfl
@[simp] theorem State.withdraw_sync (s : State) (f : OutPost → Bool) : (s.withdraw f).sync = s.sync := rfl
@[simp] theorem State.withdraw_cue (s : State) (f : OutPost → Bool) : (s.withdraw f).cue = s.cue := rfl
@[simp] theorem State.withdraw_engine (s : State) (f : OutPost → Bool) : (s.withdraw f).engine = s.engine := rfl
@[simp] theorem State.withdraw_axis (s : State) (f : OutPost → Bool) : (s.withdraw f).axis = s.axis := rfl
@[simp] theorem State.withdraw_roster (s : State) (f : OutPost → Bool) : (s.withdraw f).roster = s.roster := rfl
@[simp] theorem State.withdraw_store (s : State) (f : OutPost → Bool) : (s.withdraw f).store = s.store := rfl
@[simp] theorem State.withdraw_lock (s : State) (f : OutPost → Bool) : (s.withdraw f).lock = s.lock := rfl
@[simp] theorem State.withdraw_freeCount (s : State) (f : OutPost → Bool) : (s.withdraw f).freeCount = s.freeCount := rfl
@[simp] theorem State.withdraw_pending (s : State) (f : OutPost → Bool) : (s.withdraw f).pending = s.pending := rfl

@[simp] theorem State.post_line (s : State) (p : Post) : (s.post p).line = Line.offer s.line p .plain := rfl
@[simp] theorem State.postFor_line (s : State) (u : PostUse) (p : Post) : (s.postFor u p).line = Line.offer s.line p u := rfl
@[simp] theorem State.askPresence_line (s : State) : s.askPresence.line = Line.requestPresence s.line := rfl
@[simp] theorem State.withdraw_line (s : State) (f : OutPost → Bool) : (s.withdraw f).line = Line.withdraw s.line f := rfl
@[simp] theorem State.notice_line (s : State) (c : NoticeCode) (n : Nat) (g : Option Nat) (d : Nat) :
    (s.notice c n g d).line = Line.offer s.line (.notice ⟨c.code, n, s.flyer, g, d⟩) .plain := rfl

/-! ### The outgoing queue -/

/-- A post offered where there is room in JOINING or ON joins at the tail (07 R147). -/
theorem Line.offer_room (l : Line) (p : Post) (u : PostUse) (h : l.state = .on ∨ l.state = .joining)
    (hr : l.queue.length < Config.maxPosts) :
    Line.offer l p u = { l with queue := l.queue ++ [⟨p, u, l.nextAge⟩], nextAge := l.nextAge + 1 } := by
  rcases h with h | h <;> simp [Line.offer, h, hr]

/-- Outside JOINING and ON an offered post is discarded without report (07 R148). -/
theorem Line.offer_closed (l : Line) (p : Post) (u : PostUse)
    (h : l.state = .lineOff ∨ l.state = .deaf ∨ l.state = .listenOnly) : Line.offer l p u = l := by
  rcases h with h | h | h <;> simp [Line.offer, h]

/-- The victim of a full queue is one of its posts. -/
theorem Line.victim_mem (l : Line) (c : Nat) (v : OutPost) (h : Line.victim l c = some v) : v ∈ l.queue := by
  unfold Line.victim at h
  simp only at h
  split at h
  · exact List.mem_of_mem_filter (List.mem_of_mem_filter (List.mem_of_getLast? h))
  · simp at h

/-- A queue of at most 8 posts stays one (07 R147). -/
theorem Line.offer_length (l : Line) (p : Post) (u : PostUse) (h : l.queue.length ≤ Config.maxPosts) :
    (Line.offer l p u).queue.length ≤ Config.maxPosts := by
  unfold Line.offer
  split
  · exact h
  · exact h
  · exact h
  all_goals
    simp only
    split
    · simp; omega
    · split
      · rename_i v hv
        have hm := Line.victim_mem l _ v hv
        have := List.length_eraseP_of_mem hm (p := fun q => q.age == v.age) (by simp)
        have hp := List.length_pos_of_mem hm
        simp only [List.length_append, List.length_singleton]
        omega
      · exact h

@[simp] theorem Line.offer_state (l : Line) (p : Post) (u : PostUse) : (Line.offer l p u).state = l.state := by
  unfold Line.offer
  split
  · rfl
  · rfl
  · rfl
  all_goals
    simp only
    split
    · rfl
    · split <;> rfl

@[simp] theorem Line.requestPresence_queue (l : Line) : (Line.requestPresence l).queue = l.queue := by
  unfold Line.requestPresence; split
  · split
    · rfl
    · split <;> rfl
  all_goals rfl

@[simp] theorem Line.requestPresence_state (l : Line) : (Line.requestPresence l).state = l.state := by
  unfold Line.requestPresence; split
  · split
    · rfl
    · split <;> rfl
  all_goals rfl

@[simp] theorem Line.requestPresence_reports (l : Line) : (Line.requestPresence l).reports = l.reports := by
  unfold Line.requestPresence; split
  · split
    · rfl
    · split <;> rfl
  all_goals rfl

@[simp] theorem Line.withdraw_state (l : Line) (f : OutPost → Bool) : (Line.withdraw l f).state = l.state := rfl
@[simp] theorem Line.withdraw_reports (l : Line) (f : OutPost → Bool) : (Line.withdraw l f).reports = l.reports := rfl

theorem Line.withdraw_length (l : Line) (f : OutPost → Bool) : (Line.withdraw l f).queue.length ≤ l.queue.length := by
  simpa [Line.withdraw] using List.length_filter_le _ _

theorem Line.removeDelivered_length (l : Line) (r : OutRef) :
    (Line.removeDelivered l r).queue.length ≤ l.queue.length := by
  cases r with
  | slot => exact Nat.le_refl _
  | queued a => exact List.length_eraseP_le

end Sys2Proof.Machine
end

