-- ==== Sys2Proof/Laws/Cues.lean ====
section
/-! SUPPORT. What a drop, a cut, a flush and the entry into FAULTED can change: the cue unit, the axis, the engine, the line interface and, where a drop returns to PARKED, the aloft record's target. -/

namespace Sys2Proof.Machine

/-- The blocks that no drop, cut or flush touches are alike in the two states. -/
structure OutsideCue (s t : State) : Prop where
  power : t.power = s.power
  strap : t.strap = s.strap
  cfg : t.cfg = s.cfg
  reg : t.reg = s.reg
  sync : t.sync = s.sync
  roster : t.roster = s.roster
  lock : t.lock = s.lock
  freeCount : t.freeCount = s.freeCount
  pending : t.pending = s.pending

theorem OutsideCue.refl (s : State) : OutsideCue s s := ⟨rfl, rfl, rfl, rfl, rfl, rfl, rfl, rfl, rfl⟩

theorem OutsideCue.trans {s t u : State} (a : OutsideCue s t) (b : OutsideCue t u) : OutsideCue s u :=
  ⟨b.power.trans a.power, b.strap.trans a.strap, b.cfg.trans a.cfg, b.reg.trans a.reg, b.sync.trans a.sync,
    b.roster.trans a.roster, b.lock.trans a.lock, b.freeCount.trans a.freeCount, b.pending.trans a.pending⟩

theorem outsideCue_post (s : State) (p : Post) : OutsideCue s (s.post p) := ⟨rfl, rfl, rfl, rfl, rfl, rfl, rfl, rfl, rfl⟩

theorem outsideCue_withAxis (s : State) (x : Axis) : OutsideCue s (s.withAxis x) :=
  ⟨rfl, rfl, rfl, rfl, rfl, rfl, rfl, rfl, rfl⟩

theorem outsideCue_enterAxis (s : State) (a : AxisState) : OutsideCue s (s.enterAxis a) := by
  unfold State.enterAxis
  split
  · exact .refl s
  · split <;> exact ⟨rfl, rfl, rfl, rfl, rfl, rfl, rfl, rfl, rfl⟩

theorem outsideCue_returnToOrigin (s : State) : OutsideCue s (returnToOrigin s) := by
  unfold returnToOrigin
  simp only
  split
  · exact (outsideCue_withAxis s _).trans (outsideCue_enterAxis _ _)
  · exact outsideCue_withAxis s _

theorem outsideCue_releaseUnused (c : CurrentCue) (s : State) : OutsideCue s (releaseUnused c s) := by
  unfold releaseUnused
  simp only
  split
  · split <;> exact ⟨rfl, rfl, rfl, rfl, rfl, rfl, rfl, rfl, rfl⟩
  · exact .refl s

theorem outsideCue_dropCue (r : CutReason) (w : Bool) (s : State) : OutsideCue s (dropCue r w s) := by
  unfold dropCue
  split
  · split
    · unfold dropArmed
      simp only
      refine .trans ?_ (outsideCue_releaseUnused _ _)
      have h := outsideCue_returnToOrigin
        (s.withCue { s.cue with current := none, readyWait := none, spaceWait := none })
      split <;> exact ⟨h.1, h.2, h.3, h.4, h.5, h.6, h.7, h.8, h.9⟩
    · exact .refl s
  · exact .refl s

theorem outsideCue_cutRun (r : CutReason) (s : State) : OutsideCue s (cutRun r s) := by
  unfold cutRun
  split
  · split
    · unfold cutRunning toStopping
      simp only
      split
      · exact ⟨rfl, rfl, rfl, rfl, rfl, rfl, rfl, rfl, rfl⟩
      · split
        · have h := outsideCue_enterAxis ((s.withEngine (Engine.toIdle s.engine)).withAxis
            { s.axis with demand := s.engine.demand, ramp := some s.engine.planned }) .stopping
          exact ⟨h.1, h.2, h.3, h.4, h.5, h.6, h.7, h.8, h.9⟩
        · exact ⟨rfl, rfl, rfl, rfl, rfl, rfl, rfl, rfl, rfl⟩
    · exact .refl s
  · exact .refl s

theorem outsideCue_flush (s : State) : OutsideCue s (flush s) := by
  unfold flush
  simp only
  split <;> exact ⟨rfl, rfl, rfl, rfl, rfl, rfl, rfl, rfl, rfl⟩

/-- A flush empties the queue and stops the chain delay; nothing else of the cue unit changes. -/
theorem flush_cue (s : State) : (flush s).cue = { s.cue with queue := [], chainDelay := none } := by
  unfold flush
  simp only
  split <;> rfl

theorem flush_axis (s : State) : (flush s).axis = s.axis := by
  unfold flush
  simp only
  split <;> rfl

theorem flush_engine (s : State) : (flush s).engine = s.engine := by
  unfold flush
  simp only
  split <;> rfl

theorem flush_store (s : State) : (flush s).store = s.store := by
  unfold flush
  simp only
  split <;> rfl

/-- Outside ARMED a drop forgets the origin and nothing more of the axis. -/
theorem dropCue_axis (r : CutReason) (w : Bool) (s : State) (h : s.axis.state ≠ .armed) :
    (dropCue r w s).axis = s.axis ∨ (dropCue r w s).axis = { s.axis with origin := none } := by
  unfold dropCue
  split
  · split
    · right
      unfold dropArmed returnToOrigin releaseUnused
      simp only [State.withCue_axis, h, if_false]
      repeat' split
      all_goals rfl
    · exact .inl rfl
  · exact .inl rfl

/-- After a drop no cue is ARMED. -/
theorem dropCue_current (r : CutReason) (w : Bool) (s : State) :
    (dropCue r w s).cue.current = none
      ∨ (dropCue r w s) = s ∧ ∃ c, s.cue.current = some c ∧ c.phase = .running := by
  unfold dropCue
  split
  case h_1 c hc =>
    split
    · left
      have h : ∀ u, (returnToOrigin u).cue = u.cue := by
        intro u
        unfold returnToOrigin State.enterAxis
        simp only
        repeat' split
        all_goals rfl
      unfold dropArmed releaseUnused
      simp only
      repeat' split
      all_goals simp [h]
    · refine .inr ⟨rfl, c, hc, ?_⟩
      cases hp : c.phase <;> simp_all
  case h_2 hc => exact .inl hc

/-- After a drop and a cut no cue is current. -/
theorem cutRun_dropCue_current (r r' : CutReason) (w : Bool) (s : State) :
    (cutRun r' (dropCue r w s)).cue.current = none := by
  rcases dropCue_current r w s with h | ⟨h, c, hc, hp⟩
  · unfold cutRun
    rw [h]
    exact h
  · rw [h]
    unfold cutRun cutRunning
    simp only [hc, hp, if_true]
    rfl

/-- A cut with reason FAULT leaves the axis to the entry into FAULTED. -/
theorem cutRun_fault_axis (s : State) : (cutRun .fault s).axis = s.axis := by
  unfold cutRun cutRunning
  split
  · split <;> rfl
  · rfl

/-- The axis after an entry into FAULTED (05 R112). -/
theorem enterFaulted_axis (kinds : FaultSet) (s : State) :
    (enterFaulted kinds s).axis = { Axis.command s.axis .set with
      state := .faulted, demand := 0, ramp := none, origin := none
      faults := FaultSet.union s.axis.faults kinds } := by
  unfold enterFaulted
  simp only [State.askPresence_axis, State.post_axis, flush_axis, State.withAxis_axis, cutRun_fault_axis]
  rcases dropCue_axis .fault true (s.withAxis { Axis.command s.axis .set with
      state := .faulted, demand := 0, ramp := none, faults := FaultSet.union s.axis.faults kinds })
    (by simp) with h | h <;> rw [h] <;> rfl

/-- After an entry into FAULTED no cue is current and none is queued (03 R69). -/
theorem enterFaulted_cue (kinds : FaultSet) (s : State) :
    (enterFaulted kinds s).cue.current = none ∧ (enterFaulted kinds s).cue.queue = [] := by
  unfold enterFaulted
  simp only [State.askPresence_cue, State.post_cue, flush_cue, State.withAxis_cue]
  exact ⟨cutRun_dropCue_current _ _ _ _, trivial⟩

theorem outsideCue_enterFaulted (kinds : FaultSet) (s : State) : OutsideCue s (enterFaulted kinds s) := by
  unfold enterFaulted
  simp only
  have h := (outsideCue_dropCue .fault true (s.withAxis { Axis.command s.axis .set with
    state := .faulted, demand := 0, ramp := none, faults := FaultSet.union s.axis.faults kinds })).trans
    (outsideCue_cutRun .fault _)
  refine .trans (t := flush _) (.trans ?_ (outsideCue_flush _)) ⟨rfl, rfl, rfl, rfl, rfl, rfl, rfl, rfl, rfl⟩
  exact ⟨h.1, h.2, h.3, h.4, h.5, h.6, h.7, h.8, h.9⟩

theorem outsideCue_settleHeld (c : CurrentCue) (s : State) : OutsideCue s (settleHeld c s) := by
  unfold settleHeld State.coverChanged
  simp only
  repeat' split
  all_goals exact ⟨rfl, rfl, rfl, rfl, rfl, rfl, rfl, rfl, rfl⟩

/-- The completion of a run touches the same blocks as a cut, and the aloft record's target (03 R71, 05 R101). -/
theorem outsideCue_completeRun (s : State) : OutsideCue s (completeRun s) := by
  unfold completeRun
  simp only
  split
  · split
    · refine .trans (.trans (.trans ?_ (outsideCue_withAxis _ _)) (outsideCue_enterAxis _ _))
        (outsideCue_settleHeld _ _)
      exact ⟨rfl, rfl, rfl, rfl, rfl, rfl, rfl, rfl, rfl⟩
    · exact ⟨rfl, rfl, rfl, rfl, rfl, rfl, rfl, rfl, rfl⟩
  · exact ⟨rfl, rfl, rfl, rfl, rfl, rfl, rfl, rfl, rfl⟩

end Sys2Proof.Machine
end

