-- ==== Sys2Proof/Laws/Finish.lean ====
section
/-! SUPPORT. What every event ends with: the chain delay and re-claim mark, the port, and the discard reports; and the envelopes of events and deliveries. -/

namespace Sys2Proof.Machine

/-! ### The chain delay and the re-claim mark -/

theorem trackChain_eq (s : State) : ∃ v, trackChain s = s.withCue { s.cue with chainDelay := v } := by
  unfold trackChain
  split
  · exact ⟨_, rfl⟩
  · split
    · split
      · exact ⟨s.cue.chainDelay, rfl⟩
      · exact ⟨_, rfl⟩
    · exact ⟨_, rfl⟩

theorem trackReclaim_eq (s : State) : ∃ v, trackReclaim s = s.withCue { s.cue with reclaim := v } := by
  unfold trackReclaim
  split
  · split
    · exact ⟨_, rfl⟩
    · exact ⟨s.cue.reclaim, rfl⟩
  · exact ⟨_, rfl⟩

/-- A re-claim that is owed at none of an event's reports is due again once it is owed after them. -/
theorem trackReclaim_again (s t : State) (hs : owesReclaim s = false) (ht : owesReclaim t = true)
    (h : t.cue.reclaim = (trackReclaim s).cue.reclaim) : (trackReclaim t).cue.reclaim = .due := by
  have hn : t.cue.reclaim = .notOwed := by rw [h]; simp [trackReclaim, hs]
  simp [trackReclaim, ht, hn]

@[simp] theorem trackChain_power (s : State) : (trackChain s).power = s.power := by
  obtain ⟨v, h⟩ := trackChain_eq s; rw [h]; rfl
@[simp] theorem trackChain_strap (s : State) : (trackChain s).strap = s.strap := by
  obtain ⟨v, h⟩ := trackChain_eq s; rw [h]; rfl
@[simp] theorem trackChain_cfg (s : State) : (trackChain s).cfg = s.cfg := by
  obtain ⟨v, h⟩ := trackChain_eq s; rw [h]; rfl
@[simp] theorem trackChain_reg (s : State) : (trackChain s).reg = s.reg := by
  obtain ⟨v, h⟩ := trackChain_eq s; rw [h]; rfl
@[simp] theorem trackChain_sync (s : State) : (trackChain s).sync = s.sync := by
  obtain ⟨v, h⟩ := trackChain_eq s; rw [h]; rfl
@[simp] theorem trackChain_engine (s : State) : (trackChain s).engine = s.engine := by
  obtain ⟨v, h⟩ := trackChain_eq s; rw [h]; rfl
@[simp] theorem trackChain_axis (s : State) : (trackChain s).axis = s.axis := by
  obtain ⟨v, h⟩ := trackChain_eq s; rw [h]; rfl
@[simp] theorem trackChain_roster (s : State) : (trackChain s).roster = s.roster := by
  obtain ⟨v, h⟩ := trackChain_eq s; rw [h]; rfl
@[simp] theorem trackChain_line (s : State) : (trackChain s).line = s.line := by
  obtain ⟨v, h⟩ := trackChain_eq s; rw [h]; rfl
@[simp] theorem trackChain_store (s : State) : (trackChain s).store = s.store := by
  obtain ⟨v, h⟩ := trackChain_eq s; rw [h]; rfl
@[simp] theorem trackChain_lock (s : State) : (trackChain s).lock = s.lock := by
  obtain ⟨v, h⟩ := trackChain_eq s; rw [h]; rfl
@[simp] theorem trackChain_freeCount (s : State) : (trackChain s).freeCount = s.freeCount := by
  obtain ⟨v, h⟩ := trackChain_eq s; rw [h]; rfl
@[simp] theorem trackChain_pending (s : State) : (trackChain s).pending = s.pending := by
  obtain ⟨v, h⟩ := trackChain_eq s; rw [h]; rfl

@[simp] theorem trackReclaim_power (s : State) : (trackReclaim s).power = s.power := by
  obtain ⟨v, h⟩ := trackReclaim_eq s; rw [h]; rfl
@[simp] theorem trackReclaim_strap (s : State) : (trackReclaim s).strap = s.strap := by
  obtain ⟨v, h⟩ := trackReclaim_eq s; rw [h]; rfl
@[simp] theorem trackReclaim_cfg (s : State) : (trackReclaim s).cfg = s.cfg := by
  obtain ⟨v, h⟩ := trackReclaim_eq s; rw [h]; rfl
@[simp] theorem trackReclaim_reg (s : State) : (trackReclaim s).reg = s.reg := by
  obtain ⟨v, h⟩ := trackReclaim_eq s; rw [h]; rfl
@[simp] theorem trackReclaim_sync (s : State) : (trackReclaim s).sync = s.sync := by
  obtain ⟨v, h⟩ := trackReclaim_eq s; rw [h]; rfl
@[simp] theorem trackReclaim_engine (s : State) : (trackReclaim s).engine = s.engine := by
  obtain ⟨v, h⟩ := trackReclaim_eq s; rw [h]; rfl
@[simp] theorem trackReclaim_axis (s : State) : (trackReclaim s).axis = s.axis := by
  obtain ⟨v, h⟩ := trackReclaim_eq s; rw [h]; rfl
@[simp] theorem trackReclaim_roster (s : State) : (trackReclaim s).roster = s.roster := by
  obtain ⟨v, h⟩ := trackReclaim_eq s; rw [h]; rfl
@[simp] theorem trackReclaim_line (s : State) : (trackReclaim s).line = s.line := by
  obtain ⟨v, h⟩ := trackReclaim_eq s; rw [h]; rfl
@[simp] theorem trackReclaim_store (s : State) : (trackReclaim s).store = s.store := by
  obtain ⟨v, h⟩ := trackReclaim_eq s; rw [h]; rfl
@[simp] theorem trackReclaim_lock (s : State) : (trackReclaim s).lock = s.lock := by
  obtain ⟨v, h⟩ := trackReclaim_eq s; rw [h]; rfl
@[simp] theorem trackReclaim_freeCount (s : State) : (trackReclaim s).freeCount = s.freeCount := by
  obtain ⟨v, h⟩ := trackReclaim_eq s; rw [h]; rfl
@[simp] theorem trackReclaim_pending (s : State) : (trackReclaim s).pending = s.pending := by
  obtain ⟨v, h⟩ := trackReclaim_eq s; rw [h]; rfl

/-- The marks set at an event's end change nothing else of the cue unit. -/
theorem tracks_sameBut (s : State) : CueUnit.sameBut s.cue (trackReclaim (trackChain s)).cue := by
  obtain ⟨v, h⟩ := trackChain_eq s
  obtain ⟨w, h2⟩ := trackReclaim_eq (trackChain s)
  rw [h2, h]
  rfl

/-! ### The memory port -/

theorem Store.request_eq (st : Store) (r : MemRequest) :
    Store.request st r = { st with waiting := st.waiting ++ [r] } := rfl

theorem Store.requestAloft_eq (st : Store) : ∃ w, Store.requestAloft st = { st with waiting := w } := by
  unfold Store.requestAloft; split
  · exact ⟨_, rfl⟩
  · exact ⟨st.waiting, rfl⟩

theorem Store.requestLock_eq (st : Store) : ∃ w, Store.requestLock st = { st with waiting := w } := by
  unfold Store.requestLock; split
  · exact ⟨_, rfl⟩
  · exact ⟨st.waiting, rfl⟩

theorem Store.requestFlag_eq (st : Store) : ∃ w, Store.requestFlag st = { st with waiting := w } := by
  unfold Store.requestFlag; split
  · exact ⟨_, rfl⟩
  · exact ⟨st.waiting, rfl⟩

theorem Store.grant_eq (st : Store) : ∃ w f, Store.grant st = { st with waiting := w, inFlight := f } := by
  unfold Store.grant
  split
  · exact ⟨st.waiting, st.inFlight, rfl⟩
  · split
    · exact ⟨st.waiting, st.inFlight, rfl⟩
    · exact ⟨_, _, rfl⟩

/-- Serving the port changes what waits and what is in flight, and nothing else. -/
theorem Store.servePort_eq (st : Store) : ∃ w f, Store.servePort st = { st with waiting := w, inFlight := f } := by
  unfold Store.servePort
  obtain ⟨w1, h1⟩ := Store.requestAloft_eq st
  obtain ⟨w2, h2⟩ := Store.requestLock_eq (Store.requestAloft st)
  obtain ⟨w3, h3⟩ := Store.requestFlag_eq (Store.requestLock (Store.requestAloft st))
  obtain ⟨w4, f4, h4⟩ := Store.grant_eq (Store.requestFlag (Store.requestLock (Store.requestAloft st)))
  rw [h4, h3, h2, h1]
  exact ⟨_, _, rfl⟩

/-- Serving the port writes no word of memory (09 R167: a write's words appear at its completion). -/
theorem Store.servePort_mem (st : Store) : (Store.servePort st).mem = st.mem := by
  obtain ⟨w, f, h⟩ := Store.servePort_eq st
  rw [h]

/-- An operation in flight is left in flight (09 R167: no operation is pre-empted). -/
theorem Store.grant_busy (st : Store) (op : MemOp) (h : st.inFlight = some op) : Store.grant st = st := by
  simp [Store.grant, h]

/-! ### The end of an event -/

@[simp] theorem drainReports_zero (s : State) : drainReports 0 s = s := rfl

/-- With no report there is nothing to act on. -/
theorem drainReports_nil (n : Nat) (s : State) (h : s.line.reports = []) : drainReports n s = s := by
  cases n with
  | zero => rfl
  | succ n => unfold drainReports; rw [h]

/-- The first report is acted on, then those after it and those this one makes. -/
theorem drainReports_cons (n : Nat) (s : State) (o : OutPost) (os : List OutPost) (h : s.line.reports = o :: os) :
    drainReports (n + 1) s = drainReports n (takeReport o os s) := by
  rw [drainReports, h]

/-- The end of an event at which no post was discarded. -/
theorem finish_quiet (s : State) (h : s.line.reports = []) :
    finish s = (trackReclaim (trackChain s)).withStore (Store.servePort s.store) := by
  simp [finish, drainReports_nil _ _ h]

theorem finish_power (s : State) (h : s.line.reports = []) : (finish s).power = s.power := by
  rw [finish_quiet s h]; simp
theorem finish_strap (s : State) (h : s.line.reports = []) : (finish s).strap = s.strap := by
  rw [finish_quiet s h]; simp
theorem finish_cfg (s : State) (h : s.line.reports = []) : (finish s).cfg = s.cfg := by
  rw [finish_quiet s h]; simp
theorem finish_reg (s : State) (h : s.line.reports = []) : (finish s).reg = s.reg := by
  rw [finish_quiet s h]; simp
theorem finish_sync (s : State) (h : s.line.reports = []) : (finish s).sync = s.sync := by
  rw [finish_quiet s h]; simp
theorem finish_engine (s : State) (h : s.line.reports = []) : (finish s).engine = s.engine := by
  rw [finish_quiet s h]; simp
theorem finish_axis (s : State) (h : s.line.reports = []) : (finish s).axis = s.axis := by
  rw [finish_quiet s h]; simp
theorem finish_roster (s : State) (h : s.line.reports = []) : (finish s).roster = s.roster := by
  rw [finish_quiet s h]; simp
theorem finish_line (s : State) (h : s.line.reports = []) : (finish s).line = s.line := by
  rw [finish_quiet s h]; simp
theorem finish_lock (s : State) (h : s.line.reports = []) : (finish s).lock = s.lock := by
  rw [finish_quiet s h]; simp
theorem finish_freeCount (s : State) (h : s.line.reports = []) : (finish s).freeCount = s.freeCount := by
  rw [finish_quiet s h]; simp
theorem finish_pending (s : State) (h : s.line.reports = []) : (finish s).pending = s.pending := by
  rw [finish_quiet s h]; simp

theorem finish_cue (s : State) (h : s.line.reports = []) : CueUnit.sameBut s.cue (finish s).cue := by
  rw [finish_quiet s h]; exact tracks_sameBut s

theorem finish_store (s : State) (h : s.line.reports = []) : (finish s).store = Store.servePort s.store := by
  rw [finish_quiet s h]; simp

theorem finish_store_sameBut (s : State) (h : s.line.reports = []) : Store.sameBut s.store (finish s).store := by
  rw [finish_store s h]
  obtain ⟨w, f, h2⟩ := Store.servePort_eq s.store
  rw [h2]; rfl

/-- The end of an event without discards changes no block but the marks and the port. -/
theorem finish_unchanged (s : State) (h : s.line.reports = []) (b : Block) : unchanged s (finish s) b := by
  cases b
  · exact finish_reg s h
  · exact finish_sync s h
  · exact finish_cue s h
  · exact finish_engine s h
  · exact finish_axis s h
  · exact finish_roster s h
  · exact finish_line s h
  · exact finish_store_sameBut s h
  · exact finish_lock s h
  · exact finish_freeCount s h
  · exact (congrArg Store.mem (finish_store s h)).trans (Store.servePort_mem s.store)

theorem finish_frame (s : State) (h : s.line.reports = []) : FrameBut [] s (finish s) :=
  ⟨finish_power s h, finish_strap s h, finish_cfg s h, finish_pending s h, fun b _ => finish_unchanged s h b⟩

theorem unchanged_refl (s : State) (b : Block) : unchanged s s b := by
  cases b <;> rfl

/-- A frame over the end of an event without discards. -/
theorem frame_finish (bs : List Block) (s u : State) (hr : u.line.reports = []) (hp : u.power = s.power)
    (hs : u.strap = s.strap) (hc : u.cfg = s.cfg) (hq : u.pending = s.pending)
    (h : ∀ b, b ∉ bs → unchanged s u b) : FrameBut bs s (finish u) := by
  refine ⟨by rw [finish_power u hr, hp], by rw [finish_strap u hr, hs], by rw [finish_cfg u hr, hc],
    by rw [finish_pending u hr, hq], ?_⟩
  intro b hb
  have hu := h b hb
  have hf := finish_unchanged u hr b
  cases b <;> simp only [unchanged] at *
  case cue => unfold CueUnit.sameBut at *; rw [← hu]; rw [← hf]
  case store => unfold Store.sameBut at *; rw [← hu]; rw [← hf]
  all_goals rw [hf, hu]

/-! ### Envelopes -/

theorem event_held (act : State → State) (s : State) (h : s.power = .held) : event act s = s := by
  simp [event, h]

theorem event_running (act : State → State) (s : State) (h : s.power = .running) :
    event act s = finish (act s) := by
  simp [event, h]

theorem deliver_held (n : Fin 48) (p : Option Post) (act : State → State) (s : State) (h : s.power = .held) :
    deliver n p act s = s := by
  simp [deliver, h]

/-- In ON and LINE-OFF a delivery is taken (07 R134). -/
theorem deliver_taken (n : Fin 48) (p : Option Post) (act : State → State) (s : State) (h : s.power = .running)
    (hl : s.line.state = .on ∨ s.line.state = .lineOff) : deliver n p act s = finish (takeDelivery n p act s) := by
  rcases hl with hl | hl <;> simp [deliver, h, hl]

/-- In JOINING a delivery only moves the joining on (07 R135). -/
theorem deliver_joining (n : Fin 48) (p : Option Post) (act : State → State) (s : State) (h : s.power = .running)
    (hl : s.line.state = .joining) : deliver n p act s = finish (joinAtPost s) := by
  simp [deliver, h, hl]

/-- A DEAF or LISTEN-ONLY station takes no delivery (07 R145, R146). -/
theorem deliver_silent (n : Fin 48) (p : Option Post) (act : State → State) (s : State) (h : s.power = .running)
    (hl : s.line.state = .deaf ∨ s.line.state = .listenOnly) : deliver n p act s = s := by
  rcases hl with hl | hl <;> simp [deliver, h, hl]

/-- A post that does not carry the station's number is none of its own. -/
@[simp] theorem Line.ownRef_other (l : Line) (p : Option Post) : Line.ownRef l false p = none := rfl

/-- The post the station sends is its own where it carries the station's number. -/
theorem Line.ownRef_sent (l : Line) (r : OutRef) (p : Option Post) (h : l.onLine = some (.own r)) :
    Line.ownRef l true p = some r := by
  simp [Line.ownRef, h]

/-- While another station's post is on the line a delivery is none of the station's own, whatever number it carries (07 R138). -/
theorem Line.ownRef_twin (l : Line) (mine : Bool) (p : Option Post) (h : l.onLine = some .other) :
    Line.ownRef l mine p = none := by
  cases mine <;> simp [Line.ownRef, h]

/-- A delivery of a post that is not the station's own: the line interface's and roster's parts, then the blocks. -/
theorem takeDelivery_other (n : Fin 48) (p : Option Post) (act : State → State) (s : State)
    (h : Line.ownRef s.line (n.val == s.strap) p = none) :
    takeDelivery n p act s = act (hear n (s.withLine { s.line with rxSpoil := 0, onLine := none })) := by
  simp [takeDelivery, h, Line.afterDelivery, OutRef.inQueue]

/-- An own delivery with no post owed: nothing is sent again. -/
theorem takeDelivery_own (n : Fin 48) (p : Option Post) (r : OutRef) (act : State → State) (s : State)
    (h : Line.ownRef s.line (n.val == s.strap) p = some r) (ho : s.cue.owed = []) :
    takeDelivery n p act s
      = let l := { Line.removeDelivered { s.line with txSpoil := 0 } r with rxSpoil := 0, onLine := none }
        let t := act (hear n (s.withLine l))
        if OutRef.inQueue (some r) then resendOwed 0 t else t := by
  simp [takeDelivery, h, ho, Line.afterDelivery]

/-- Sending no owed post again leaves the state as it is. -/
theorem resendOwed_zero (s : State) : resendOwed 0 s = s := rfl

/-! ### The roster's part -/

@[simp] theorem Roster.entry_put_same (r : Roster) (i : Fin 48) (e : RosterEntry) : (Roster.put r i e).entry i.val = e := by
  simp [Roster.entry, Roster.put]

theorem Roster.entry_put_other (r : Roster) (i : Fin 48) (e : RosterEntry) (n : Nat) (h : n ≠ i.val) :
    (Roster.put r i e).entry n = r.entry n := by
  simp [Roster.entry, Roster.put, Ne.symm h]

end Sys2Proof.Machine
end

