-- ==== Sys2Proof/Laws/Delivery.lean ====
section
/-! SUPPORT. A delivery at a calm station: the state the blocks act on, what the line interface leaves of its queue, and the posts an event enqueues. -/

namespace Sys2Proof.Machine

/-- The state the blocks act on at a delivery: the line interface's and the roster's parts done (07 R140). -/
def heard (n : Fin 48) (p : Option Post) (s : State) : State :=
  hear n (s.withLine (Line.afterDelivery s.line (Line.ownRef s.line (n.val == s.strap) p)))

/-- With no post owed a delivery is the blocks' action on the heard state. -/
theorem takeDelivery_calm (n : Fin 48) (p : Option Post) (act : State → State) (s : State) (ho : s.cue.owed = []) :
    takeDelivery n p act s = act (heard n p s) := by
  have h0 : s.cue.owed.length = 0 := by rw [ho]; rfl
  unfold takeDelivery heard
  simp only [h0]
  split <;> rfl

/-- A delivery at a station that receives and is calm. -/
theorem deliver_calm (n : Fin 48) (p : Option Post) (act : State → State) (s : State) (h : Receives s) :
    deliver n p act s = finish (act (heard n p s)) := by
  obtain ⟨⟨hp, _, ho, _⟩, hl⟩ := h
  rw [deliver_taken n p act s hp hl, takeDelivery_calm n p act s ho]

@[simp] theorem heard_power (n : Fin 48) (p : Option Post) (s : State) : (heard n p s).power = s.power := rfl
@[simp] theorem heard_strap (n : Fin 48) (p : Option Post) (s : State) : (heard n p s).strap = s.strap := rfl
@[simp] theorem heard_cfg (n : Fin 48) (p : Option Post) (s : State) : (heard n p s).cfg = s.cfg := rfl
@[simp] theorem heard_reg (n : Fin 48) (p : Option Post) (s : State) : (heard n p s).reg = s.reg := rfl
@[simp] theorem heard_sync (n : Fin 48) (p : Option Post) (s : State) : (heard n p s).sync = s.sync := rfl
@[simp] theorem heard_cue (n : Fin 48) (p : Option Post) (s : State) : (heard n p s).cue = s.cue := rfl
@[simp] theorem heard_engine (n : Fin 48) (p : Option Post) (s : State) : (heard n p s).engine = s.engine := rfl
@[simp] theorem heard_axis (n : Fin 48) (p : Option Post) (s : State) : (heard n p s).axis = s.axis := rfl
@[simp] theorem heard_store (n : Fin 48) (p : Option Post) (s : State) : (heard n p s).store = s.store := rfl
@[simp] theorem heard_lock (n : Fin 48) (p : Option Post) (s : State) : (heard n p s).lock = s.lock := rfl
@[simp] theorem heard_freeCount (n : Fin 48) (p : Option Post) (s : State) : (heard n p s).freeCount = s.freeCount := rfl
@[simp] theorem heard_pending (n : Fin 48) (p : Option Post) (s : State) : (heard n p s).pending = s.pending := rfl

@[simp] theorem heard_line (n : Fin 48) (p : Option Post) (s : State) :
    (heard n p s).line = Line.afterDelivery s.line (Line.ownRef s.line (n.val == s.strap) p) := rfl

@[simp] theorem heard_roster (n : Fin 48) (p : Option Post) (s : State) :
    (heard n p s).roster = Roster.put s.roster n (RosterEntry.heard (s.roster.entry n.val)) := rfl

@[simp] theorem heard_flyer (n : Fin 48) (p : Option Post) (s : State) : (heard n p s).flyer = s.flyer := rfl
@[simp] theorem heard_members (n : Fin 48) (p : Option Post) (s : State) : (heard n p s).members = s.members := rfl

/-- Hearing a post changes the roster and the line interface alone. -/
theorem unchanged_heard (n : Fin 48) (p : Option Post) (s : State) (b : Block) (h1 : b ≠ .roster) (h2 : b ≠ .line) :
    unchanged s (heard n p s) b := by
  cases b <;> first | rfl | exact absurd rfl h1 | exact absurd rfl h2

/-! ### What is left of the queue -/

@[simp] theorem Line.removeDelivered_state (l : Line) (r : OutRef) : (Line.removeDelivered l r).state = l.state := by
  cases r <;> rfl

@[simp] theorem Line.removeDelivered_reports (l : Line) (r : OutRef) : (Line.removeDelivered l r).reports = l.reports := by
  cases r <;> rfl

theorem Line.removeDelivered_sub (l : Line) (r : OutRef) (o : OutPost) (h : o ∈ (Line.removeDelivered l r).queue) :
    o ∈ l.queue := by
  cases r with
  | slot => exact h
  | queued a => exact List.mem_of_mem_eraseP h

theorem Line.removeDelivered_nextAge (l : Line) (r : OutRef) : l.nextAge ≤ (Line.removeDelivered l r).nextAge := by
  cases r with
  | slot => simp only [Line.removeDelivered]; split <;> omega
  | queued a => exact Nat.le_refl _

@[simp] theorem Line.afterDelivery_state (l : Line) (own : Option OutRef) :
    (Line.afterDelivery l own).state = l.state := by
  cases own <;> simp [Line.afterDelivery]

@[simp] theorem Line.afterDelivery_reports (l : Line) (own : Option OutRef) :
    (Line.afterDelivery l own).reports = l.reports := by
  cases own <;> simp [Line.afterDelivery]

@[simp] theorem Line.afterDelivery_rxSpoil (l : Line) (own : Option OutRef) :
    (Line.afterDelivery l own).rxSpoil = 0 := rfl

@[simp] theorem Line.afterDelivery_onLine (l : Line) (own : Option OutRef) :
    (Line.afterDelivery l own).onLine = none := rfl

theorem Line.afterDelivery_length (l : Line) (own : Option OutRef) :
    (Line.afterDelivery l own).queue.length ≤ l.queue.length := by
  cases own with
  | none => exact Nat.le_refl _
  | some r => exact Line.removeDelivered_length { l with txSpoil := 0 } r

theorem Line.afterDelivery_sub (l : Line) (own : Option OutRef) (o : OutPost)
    (h : o ∈ (Line.afterDelivery l own).queue) : o ∈ l.queue := by
  cases own with
  | none => exact h
  | some r => exact Line.removeDelivered_sub { l with txSpoil := 0 } r o h

theorem Line.afterDelivery_nextAge (l : Line) (own : Option OutRef) :
    l.nextAge ≤ (Line.afterDelivery l own).nextAge := by
  cases own with
  | none => exact Nat.le_refl _
  | some r => exact Line.removeDelivered_nextAge { l with txSpoil := 0 } r

/-! ### The posts an event enqueues -/

/-- A line on which the posts `ps` have been enqueued since `l0`: the queue is older posts, then the new ones; nothing is reported. -/
structure Line.Enqueued (l0 l : Line) (ps : List Post) : Prop where
  old : ∃ q new, l.queue = q ++ new ∧ (∀ o ∈ q, o.age < l0.nextAge) ∧ (∀ o ∈ new, l0.nextAge ≤ o.age)
    ∧ new.map (·.post) = ps
  age : l0.nextAge ≤ l.nextAge
  quiet : l.reports = []

/-- The new posts of a state whose line has had `ps` enqueued. -/
theorem newPosts_of_enqueued (s t : State) (ps : List Post) (h : Line.Enqueued s.line t.line ps) :
    newPosts s t = ps := by
  obtain ⟨⟨q, new, hq, hold, hnew, hps⟩, _, _⟩ := h
  unfold newPosts
  rw [hq, List.filter_append]
  have h1 : q.filter (fun o => decide (s.line.nextAge ≤ o.age)) = [] := by
    rw [List.filter_eq_nil_iff]
    intro o ho
    have := hold o ho
    simp; omega
  have h2 : new.filter (fun o => decide (s.line.nextAge ≤ o.age)) = new := by
    rw [List.filter_eq_self]
    intro o ho
    have := hnew o ho
    simpa using this
  rw [h1, h2, List.nil_append, hps]

/-- The heard line has nothing enqueued yet. -/
theorem Line.enqueued_heard (l : Line) (own : Option OutRef) (hr : l.reports = []) (ha : AgesBelow l) :
    Line.Enqueued l (Line.afterDelivery l own) [] := by
  refine ⟨⟨(Line.afterDelivery l own).queue, [], by simp, ?_, by simp, rfl⟩, Line.afterDelivery_nextAge l own, ?_⟩
  · intro o ho
    exact ha o (Line.afterDelivery_sub l own o ho)
  · simpa using hr

/-- The line itself has nothing enqueued since itself. -/
theorem Line.enqueued_refl (l : Line) (hr : l.reports = []) (ha : AgesBelow l) : Line.Enqueued l l [] :=
  ⟨⟨l.queue, [], by simp, ha, by simp, rfl⟩, Nat.le_refl _, hr⟩

/-- A post offered with room in JOINING or ON is enqueued after the others. -/
theorem Line.Enqueued.offer {l0 l : Line} {ps : List Post} (h : Line.Enqueued l0 l ps) (p : Post) (u : PostUse)
    (hs : l.state = .on ∨ l.state = .joining) (hr : l.queue.length < 8) :
    Line.Enqueued l0 (Line.offer l p u) (ps ++ [p]) := by
  rw [Line.offer_room l p u hs hr]
  obtain ⟨⟨q, new, hq, hold, hnew, hps⟩, hage, hquiet⟩ := h
  refine ⟨⟨q, new ++ [⟨p, u, l.nextAge⟩], by simp [hq], hold, ?_, by simp [hps]⟩, by simp only; omega, hquiet⟩
  intro o ho
  rcases List.mem_append.mp ho with h1 | h1
  · exact hnew o h1
  · simp only [List.mem_singleton] at h1; subst h1; exact hage

/-- Asking for a PRESENCE enqueues nothing in the queue. -/
theorem Line.Enqueued.presence {l0 l : Line} {ps : List Post} (h : Line.Enqueued l0 l ps) :
    Line.Enqueued l0 (Line.requestPresence l) ps := by
  obtain ⟨⟨q, new, hq, hold, hnew, hps⟩, hage, hquiet⟩ := h
  refine ⟨⟨q, new, by simp [hq], hold, hnew, hps⟩, ?_, by simpa using hquiet⟩
  unfold Line.requestPresence
  split
  · split
    · exact Nat.le_succ_of_le hage
    · split <;> exact hage
  all_goals exact hage

/-- A withdrawal that picks none of the new posts leaves them. -/
theorem Line.Enqueued.withdraw {l0 l : Line} {ps : List Post} (h : Line.Enqueued l0 l ps) (f : OutPost → Bool)
    (hf : ∀ o ∈ l.queue, l0.nextAge ≤ o.age → f o = false) : Line.Enqueued l0 (Line.withdraw l f) ps := by
  obtain ⟨⟨q, new, hq, hold, hnew, hps⟩, hage, hquiet⟩ := h
  refine ⟨⟨q.filter (fun o => !f o), new, ?_, ?_, hnew, hps⟩, hage, hquiet⟩
  · have h2 : new.filter (fun o => !f o) = new := by
      rw [List.filter_eq_self]
      intro o ho
      have := hf o (by rw [hq]; exact List.mem_append_right q ho) (hnew o ho)
      simp [this]
    simp [Line.withdraw, hq, h2]
  · intro o ho
    exact hold o (List.mem_of_mem_filter ho)

end Sys2Proof.Machine
end

