-- ==== Sys2Proof/Laws/Memory.lean ====
section
/-! SUPPORT. Program memory: every write keeps the canonical form, and a read after a write gives what was written there and what was there elsewhere. -/

namespace Sys2Proof.Machine

theorem Memory.wfFrom_mono {lo lo' : Nat} (h : lo' ≤ lo) (m : Memory) (hm : Memory.wfFrom lo m = true) :
    Memory.wfFrom lo' m = true := by
  cases m with
  | nil => rfl
  | cons c t =>
    simp only [Memory.wfFrom, Bool.and_eq_true, decide_eq_true_eq] at hm ⊢
    exact ⟨⟨by omega, hm.1.2⟩, hm.2⟩

theorem Memory.write_wfFrom (m : Memory) (lo a : Nat) (w : Word) (hm : Memory.wfFrom lo m = true) (ha : lo ≤ a) :
    Memory.wfFrom lo (Memory.write m a w) = true := by
  induction m generalizing lo with
  | nil =>
    unfold Memory.write
    split
    · rfl
    · simp_all [Memory.wfFrom]
  | cons c t ih =>
    obtain ⟨b, v⟩ := c
    simp only [Memory.wfFrom, Bool.and_eq_true, decide_eq_true_eq] at hm
    obtain ⟨⟨h1, h2⟩, h3⟩ := hm
    unfold Memory.write
    by_cases hab : a < b
    · by_cases hw : w = Memory.blank
      · simp [hab, hw, Memory.wfFrom, h1, h2, h3]
      · have hb : a + 1 ≤ b := hab
        simp [hab, hw, Memory.wfFrom, ha, hb, h2, h3]
    · by_cases he : a = b
      · by_cases hw : w = Memory.blank
        · simp only [he, hw, if_true, if_false, lt_irrefl]
          exact Memory.wfFrom_mono (by omega) t h3
        · simp [he, hw, Memory.wfFrom, h1, h3]
      · simp only [hab, he, if_false, Memory.wfFrom, Bool.and_eq_true, decide_eq_true_eq]
        exact ⟨⟨h1, h2⟩, ih (b + 1) h3 (by omega)⟩

/-- A write keeps the canonical form. -/
theorem Memory.write_wf (m : Memory) (a : Nat) (w : Word) (hm : Memory.wf m = true) :
    Memory.wf (Memory.write m a w) = true :=
  Memory.write_wfFrom m 0 a w hm (Nat.zero_le a)

/-- Several writes keep the canonical form. -/
theorem Memory.writeAll_wf (cells : List MemCell) (m : Memory) (hm : Memory.wf m = true) :
    Memory.wf (Memory.writeAll m cells) = true := by
  induction cells generalizing m with
  | nil => exact hm
  | cons c t ih => exact ih (Memory.write m c.1 c.2) (Memory.write_wf m c.1 c.2 hm)

/-- Below the first listed address everything reads blank. -/
theorem Memory.read_below (m : Memory) (lo a : Nat) (hm : Memory.wfFrom lo m = true) (ha : a < lo) :
    Memory.read m a = Memory.blank := by
  cases m with
  | nil => rfl
  | cons c t =>
    obtain ⟨b, v⟩ := c
    simp only [Memory.wfFrom, Bool.and_eq_true, decide_eq_true_eq] at hm
    have h1 : a ≠ b := by omega
    have h2 : a < b := by omega
    simp [Memory.read, h1, h2]

theorem Memory.read_write_from (m : Memory) (lo a x : Nat) (w : Word) (hm : Memory.wfFrom lo m = true) :
    Memory.read (Memory.write m a w) x = if x = a then w else Memory.read m x := by
  induction m generalizing lo with
  | nil =>
    unfold Memory.write
    by_cases hw : w = Memory.blank <;> by_cases hx : x = a <;> simp [hw, hx, Memory.read]
  | cons c t ih =>
    obtain ⟨b, v⟩ := c
    simp only [Memory.wfFrom, Bool.and_eq_true, decide_eq_true_eq] at hm
    obtain ⟨⟨h1, h2⟩, h3⟩ := hm
    unfold Memory.write
    by_cases hab : a < b
    · by_cases hw : w = Memory.blank
      · simp only [hab, hw, if_true]
        by_cases hx : x = a
        · have h4 : a ≠ b := by omega
          simp [Memory.read, hx, h4, hab]
        · simp [hx]
      · simp only [hab, hw, if_true, if_false]
        by_cases hx : x = a
        · simp [Memory.read, hx]
        · by_cases hlt : x < a
          · have h4 : x ≠ b := by omega
            have h5 : x < b := by omega
            simp [Memory.read, hx, hlt, h4, h5]
          · simp [Memory.read, hx, hlt]
    · by_cases he : a = b
      · subst he
        by_cases hw : w = Memory.blank
        · simp only [lt_irrefl, hw, if_true, if_false]
          by_cases hx : x = a
          · simp only [hx, if_true]
            exact Memory.read_below t (a + 1) a h3 (by omega)
          · by_cases hlt : x < a
            · rw [Memory.read_below t (a + 1) x h3 (by omega)]
              simp [Memory.read, hx, hlt]
            · simp [Memory.read, hx, hlt]
        · by_cases hx : x = a <;> simp [hw, hx, Memory.read]
      · simp only [hab, he, if_false]
        by_cases hx : x = b
        · have h4 : b ≠ a := fun h => he h.symm
          simp [Memory.read, hx, h4]
        · by_cases hlt : x < b
          · have h4 : x ≠ a := by omega
            simp [Memory.read, hx, hlt, h4]
          · simp only [Memory.read, hx, hlt, if_false]
            exact ih (b + 1) h3

/-- A read after a write. -/
theorem Memory.read_write (m : Memory) (a x : Nat) (w : Word) (hm : Memory.wf m = true) :
    Memory.read (Memory.write m a w) x = if x = a then w else Memory.read m x :=
  Memory.read_write_from m 0 a x w hm

/-- A word that none of several writes addresses reads as before. -/
theorem Memory.read_writeAll_other (cells : List MemCell) (m : Memory) (x : Nat) (hm : Memory.wf m = true)
    (h : ∀ c ∈ cells, c.1 ≠ x) : Memory.read (Memory.writeAll m cells) x = Memory.read m x := by
  induction cells generalizing m with
  | nil => rfl
  | cons c t ih =>
    have h1 : x ≠ c.1 := fun e => h c (by simp) e.symm
    have h2 := ih (Memory.write m c.1 c.2) (Memory.write_wf m c.1 c.2 hm) (fun d hd => h d (by simp [hd]))
    have h3 : Memory.writeAll m (c :: t) = Memory.writeAll (Memory.write m c.1 c.2) t := rfl
    rw [h3, h2, Memory.read_write m c.1 x c.2 hm]
    simp [h1]

end Sys2Proof.Machine
end

