-- ==== Sys2Proof/Laws/PerInstr.lean ====
section
/-! SUPPORT. Laws of every command as syntax, made per command. -/

namespace Sys2Proof.Laws.Delivery

/-- A well-formed delivery carries a well-formed post (08 R154). -/
def Statement (i : Instr) : Prop := ∀ d, i.delivered = some d → i.wf = true → d.2.wf = true

theorem holds (i : Instr) : Statement i := by
  intro d h hw
  unfold Instr.wf at hw
  rw [h] at hw
  simp only [Bool.and_eq_true] at hw
  exact hw.2

theorem startSequence (strap : Fin 32) (bankPin : Bool) (inputs : WinchInputs) : Statement (.startSequence strap bankPin inputs) := holds _
theorem restartAssert : Statement .restartAssert := holds _
theorem axisSample (inputs : WinchInputs) : Statement (.axisSample inputs) := holds _
theorem stepEnd : Statement .stepEnd := holds _
theorem brakeConfirmationExpiry : Statement .brakeConfirmationExpiry := holds _
theorem postBegin (others : List Contender) : Statement (.postBegin others) := holds _
theorem postSpoiled (finding : Option SpoilCause) : Statement (.postSpoiled finding) := holds _
theorem unfittingPost (sender : Fin 48) (raw : RawPost) : Statement (.unfittingPost sender raw) := holds _
theorem halt (sender : Fin 48) (scope reason : Nat) : Statement (.halt sender scope reason) := holds _
theorem clearStop (sender : Fin 48) : Statement (.clearStop sender) := holds _
theorem claim (sender : Fin 48) (key : Key) (box : Box) : Statement (.claim sender key box) := holds _
theorem release (sender : Fin 48) (key : Key) : Statement (.release sender key) := holds _
theorem sync (sender : Fin 48) (requester responder : Nat) : Statement (.sync sender requester responder) := holds _
theorem tableStart (sender : Fin 48) (requester : Nat) (generation : Word) (count : Nat) : Statement (.tableStart sender requester generation count) := holds _
theorem tableEntry (sender : Fin 48) (requester index : Nat) (key : Key) (box : Box) : Statement (.tableEntry sender requester index key box) := holds _
theorem tableEnd (sender : Fin 48) (requester count : Nat) : Statement (.tableEnd sender requester count) := holds _
theorem cue (sender : Fin 48) (flyer showNo segment reps trigStation trigSegment delay : Nat) : Statement (.cue sender flyer showNo segment reps trigStation trigSegment delay) := holds _
theorem drop (sender : Fin 48) (flyer showNo segment : Nat) : Statement (.drop sender flyer showNo segment) := holds _
theorem ready (sender : Fin 48) (flyer showNo segment : Nat) (members : List Nat) : Statement (.ready sender flyer showNo segment members) := holds _
theorem unready (sender : Fin 48) (flyer showNo segment : Nat) : Statement (.unready sender flyer showNo segment) := holds _
theorem done (sender : Fin 48) (flyer segment reps : Nat) : Statement (.done sender flyer segment reps) := holds _
theorem cut (sender : Fin 48) (flyer segment remaining step reason : Nat) : Statement (.cut sender flyer segment remaining step reason) := holds _
theorem presence (sender : Fin 48) (p : Presence) : Statement (.presence sender p) := holds _
theorem notice (sender : Fin 48) (n : Notice) : Statement (.notice sender n) := holds _
theorem ack (sender : Fin 48) (target : Nat) (kinds : FaultSet) : Statement (.ack sender target kinds) := holds _
theorem lock (sender : Fin 48) (target : Nat) (flags : Byte) (code : Word) : Statement (.lock sender target flags code) := holds _
theorem unlock (sender : Fin 48) (target : Nat) (flags : Byte) (code : Word) : Statement (.unlock sender target flags code) := holds _
theorem master (sender : Fin 48) (target : Nat) (flags : Byte) (code : Word) : Statement (.master sender target flags code) := holds _
theorem swap (sender : Fin 48) (target : Nat) : Statement (.swap sender target) := holds _
theorem verify (sender : Fin 48) (target : Nat) : Statement (.verify sender target) := holds _
theorem verified (sender : Fin 48) (showNo result segment : Nat) : Statement (.verified sender showNo result segment) := holds _
theorem loadAim (sender : Fin 48) (target area index : Nat) : Statement (.loadAim sender target area index) := holds _
theorem loadData (sender : Fin 48) (target : Nat) (words : List Word) : Statement (.loadData sender target words) := holds _
theorem loadCommit (sender : Fin 48) (target : Nat) : Statement (.loadCommit sender target) := holds _
theorem lapse (station : Fin 48) : Statement (.lapse station) := holds _
theorem presenceTimerExpiry : Statement .presenceTimerExpiry := holds _
theorem lineOffTimerExpiry : Statement .lineOffTimerExpiry := holds _
theorem joinSilenceExpiry : Statement .joinSilenceExpiry := holds _
theorem aloneWindowExpiry : Statement .aloneWindowExpiry := holds _
theorem attemptTimerExpiry : Statement .attemptTimerExpiry := holds _
theorem retryTimerExpiry : Statement .retryTimerExpiry := holds _
theorem readyWaitExpiry : Statement .readyWaitExpiry := holds _
theorem spaceWaitExpiry : Statement .spaceWaitExpiry := holds _
theorem chainDelayExpiry : Statement .chainDelayExpiry := holds _
theorem takeCue : Statement .takeCue := holds _
theorem resync : Statement .resync := holds _
theorem reClaim : Statement .reClaim := holds _
theorem swapBegin : Statement .swapBegin := holds _
theorem recordWriteCompletion : Statement .recordWriteCompletion := holds _
theorem swapFlagWriteCompletion : Statement .swapFlagWriteCompletion := holds _
theorem bankCopySliceCompletion : Statement .bankCopySliceCompletion := holds _
theorem loadCommitCompletion : Statement .loadCommitCompletion := holds _
theorem verifySliceCompletion : Statement .verifySliceCompletion := holds _
theorem lineIdleSeen : Statement .lineIdleSeen := holds _

end Sys2Proof.Laws.Delivery
end

