-- ==== Sys2Proof/Tests/Slice0.lean ====
section
/-! SUPPORT. Tests of the model on small states: ill-formed commands are refused, the spec's worked values, what single steps do, and for every statement with hypotheses a state that meets them. -/

namespace Sys2Proof.Tests

open Sys2Proof Sys2Proof.Machine

/-! ### Ill-formed commands -/

theorem test_wf_halt : Instr.wf (.halt 33 7 0) = true := by decide
theorem test_wf_halt_scope_ill_coded : Instr.wf (.halt 33 16 0) = false := by decide
theorem test_wf_halt_reason_no_byte : Instr.wf (.halt 33 7 256) = false := by decide
theorem test_wf_claim_byte : Instr.wf (.claim 4 ⟨3, 256⟩ ⟨0, 1, 0, 1, 0, 1⟩) = false := by decide
theorem test_wf_claim_bad_box_is_delivered : Instr.wf (.claim 4 ⟨3, 9⟩ ⟨200, 1, 0, 1, 0, 1⟩) = true := by decide
theorem test_wf_cue_trigger_station : Instr.wf (.cue 33 7 12 4 0 48 0 0) = false := by decide
theorem test_wf_cue_trigger_segment : Instr.wf (.cue 33 7 12 4 0 4 48 0) = false := by decide
theorem test_wf_cue_show_two_bytes : Instr.wf (.cue 33 7 65536 4 0 255 255 0) = false := by decide
theorem test_wf_ready_count : Instr.wf (.ready 4 3 12 6 [4, 5, 9, 10, 11]) = false := by decide
theorem test_wf_load_aim_area : Instr.wf (.loadAim 32 12 3 0) = false := by decide
theorem test_wf_load_data_length : Instr.wf (.loadData 32 12 []) = false := by decide
theorem test_wf_presence_haul :
    Instr.wf (.presence 4 ⟨some .parked, some .current, 3, 12, 0, none, 0, 8388608, 0, noFaults, false, false, false,
      false, false⟩) = false := by decide
theorem test_wf_lock_row : Instr.wf (.lock 33 12 2 740) = false := by decide
theorem test_wf_unlock_row : Instr.wf (.unlock 33 12 1 740) = false := by decide
theorem test_wf_master_row : Instr.wf (.master 33 12 6 740) = false := by decide
theorem test_wf_lock_bad_flags : Instr.wf (.lock 33 12 3 740) = true := by decide
theorem test_wf_contender : Instr.wf (.postBegin [⟨8, 4⟩]) = false := by decide
theorem test_wf_unfitting_is_not_fitting : Instr.wf (.unfittingPost 4 ⟨0, 1, []⟩) = false := by decide
theorem test_wf_unfitting : Instr.wf (.unfittingPost 4 ⟨0, 22, []⟩) = true := by decide
theorem test_no_word_spells_a_command : decodeTableWord 16 0 = none := by decide

/-! ### The wire -/

/-- 08 section 8.9: the payload of CLAIM (3,2) for box B. -/
theorem test_claim_payload :
    (encodePost (.claim ⟨3, 2⟩ ⟨20, 30, 20, 30, 4, 20⟩)).payload = [0x03, 0x02, 0x14, 0x1E, 0x14, 0x1E, 0x04, 0x14] := by
  decide

/-- 08 section 8.10: the payload of station 9's PRESENCE. -/
theorem test_presence_payload :
    (encodePost (.presence ⟨some .flying, some .current, 3, 12, 42, some 6, 12, 4215, 812, noFaults, false, false,
        false, false, false⟩)).payload
      = [0x61, 0x03, 0x00, 0x0C, 0x00, 0x2A, 0x06, 0x00, 0x0C, 0x00, 0x10, 0x77, 0x03, 0x2C, 0x00, 0x00] := by
  decide

/-- A kind sent under another class is not fitting (08 section 8.9). -/
theorem test_claim_of_class_2_is_not_fitting : decodePost ⟨2, 2, [3, 2, 20, 30, 20, 30, 4, 20]⟩ = none := by decide

/-- 08 section 8.9: the frame of station 4's CLAIM (3,2) for box B. -/
def claimFrame : Frame := Frame.of 4 (.claim ⟨3, 2⟩ ⟨20, 30, 20, 30, 4, 20⟩)

set_option maxRecDepth 4000 in
/-- Start bit, class 1, sender 4, kind 2, length 8, the first payload byte, and the check 07AEh at the end. -/
theorem test_claim_frame_bits :
    bitTimes claimFrame.raw = 108 ∧ claimFrame.bits.length = 108 - 8 ∧ claimFrame.check = 0x07AE
      ∧ claimFrame.bits.take 28
          = [false] ++ [false, false, true] ++ [false, false, false, true, false, false]
            ++ [false, false, false, true, false] ++ [false, true, false, false, false]
            ++ [false, false, false, false, false, false, true, true]
      ∧ claimFrame.bits.drop 84 = bitsOf 16 0x07AE := by decide

set_option maxRecDepth 20000 in
theorem test_claim_frame_is_read :
    Received.read claimFrame.levels = ⟨4, 8, claimFrame.raw, 0x07AE, false, slotLevels false ++ endMark⟩
      ∧ receiveFinding (Received.read claimFrame.levels) = none
      ∧ ownFinding claimFrame claimFrame.levels = none
      ∧ claimFrame.driven false claimFrame.levels = claimFrame.levels
      ∧ (Received.read claimFrame.levels).close none = .claim 4 ⟨3, 2⟩ ⟨20, 30, 20, 30, 4, 20⟩
      ∧ (Received.read claimFrame.levels).idle = true := by decide

set_option maxRecDepth 20000 in
/-- A slot that any station drives dominant for both bit times ends the post spoiled, also at a station that found nothing. -/
theorem test_driven_slot_spoils :
    let slot := lineLevels 2 [slotLevels false, slotLevels true]
    slot = [false, false]
      ∧ (Received.read (claimFrame.coded ++ slot ++ endMark)).close none = .postSpoiled none
      ∧ ownFinding claimFrame (claimFrame.coded ++ slot ++ endMark) = none := by decide

/-- A twin's RELEASE of a key that differs in its last bit, and the one this station sends. -/
def twinFrame (tag : Nat) : Frame := Frame.of 4 (.release ⟨3, tag⟩)

set_option maxRecDepth 20000 in
/-- Two stations under one number: the one that drove recessive where the other drives dominant drives nothing more of its post, and drives the slot; the other's post goes on and ends spoiled (07 R138). -/
theorem test_read_back_stops_and_spoils :
    let line := (twinFrame 2).coded
    let stopped := (twinFrame 3).driven false (line ++ slotLevels false)
    ownFinding (twinFrame 3) line = some .readBack
      ∧ stopped.length = line.length + 8
      ∧ (stopped.drop (line.length - 14)) = List.replicate 14 true ++ slotLevels true ++ endMark
      ∧ lineLevels (line.length + 2) [stopped, (twinFrame 2).levels] = line ++ slotLevels true := by decide

theorem test_bit_is_inserted_after_five_equal :
    insertBits Run.start [false, false, false, false, false, true, true, true, true, false]
        = [false, false, false, false, false, true, true, true, true, true, false, false]
      ∧ takeBits [false, false, false, false, false, true, true] 6 Run.start
        = some ([false, false, false, false, false, true], []) := by decide

theorem test_six_equal_are_a_coding_fault :
    takeBits [false, false, false, false, false, false, true] 6 Run.start = none
      ∧ receiveFinding (Received.read (List.replicate 40 false)) = some .coding := by decide

theorem test_ten_recessive_bit_times_are_idle :
    idleSeen 0 (List.replicate 10 true) = true ∧ idleSeen 0 (List.replicate 9 true) = false
      ∧ idleSeen 4 ([true, false] ++ List.replicate 9 true) = false := by decide

/-! ### A station for the tests -/

/-- Flyer 7 on stations 12 and 4, station 12 the set lead. -/
def conf : StationConfig := ⟨7, [12, 4], 2, 30000, 300, 2000, 1000, 2000, 100, 5000, 100, [], 1205⟩

/-- Station 12 joined, CURRENT and PARKED, with nothing queued. -/
def base : State :=
  let s := State.held [] 0 []
  { s with
    power := .running, strap := 12, cfg := some conf
    reg := ⟨[], [], 41, .current⟩
    sync := { s.sync with alone := .expired, beenCurrent := true }
    cue := { s.cue with slots := [none, none] }
    axis := { s.axis with state := .parked, inputs := ⟨100, 300, .set, false, false, false, false, false, false⟩ }
    line := { s.line with state := .on, watch := .following }
    store := { s.store with active := some .a } }

/-- The box of the armed cue of the tests. -/
def boxB : Box := ⟨20, 30, 20, 30, 4, 20⟩

/-- An armed cue 12/6 with run key (7,2). -/
def cueB : CurrentCue := ⟨.armed, 32, 12, 6, 4, ⟨7, 2⟩, boxB, false, false⟩

/-- The station armed for 12/6 from PARKED, its space granted and the other member's READY recorded. -/
def armed : State :=
  { base with
    reg := { base.reg with table := [⟨⟨7, 2⟩, boxB⟩] }
    cue := { base.cue with current := some cueB, slots := [none, some (12, 6)] }
    axis := { base.axis with state := .armed, origin := some .parked } }

/-- The station flying 12/6. -/
def flyingRun : State :=
  { armed with
    cue := { armed.cue with current := some { cueB with phase := .running }, slots := [none, none] }
    axis := { armed.axis with state := .flying, origin := none, brake := .released }
    engine := { armed.engine with
      state := .playing, play := some ⟨.swing, 6, 0, 3, 2, 50⟩, row := 6, stepsLeft := 3, stepTimer := 50
      stepIndex := 31, remaining := 2, demand := 40000, planned := 100000000 } }

/-- The station locked with code 740. -/
def lockedStation : State :=
  { base with
    axis := { base.axis with state := .locked }
    lock := ⟨some 740⟩
    store := { base.store with lockRec := ⟨some 740, some 740⟩ } }

/-- A station that is faulted by its emergency stop, now let go. -/
def faultedStation : State :=
  { base with axis := { base.axis with state := .faulted, faults := { noFaults with estop := true } } }

/-- What an outcome's next state satisfies. -/
def nextIs (o : Host.Outcome State Fault Refusal) (p : State → Bool) : Bool :=
  match o with
  | .next t => p t
  | _ => false

/-- The station as a requester of station 4 in the given phase. -/
def asking (ph : Phase) : State :=
  { base with
    reg := { base.reg with state := .syncing }
    sync := { base.sync with phase := ph, responder := some 4, expected := 1, attemptTimer := some 1000 } }

/-- The station in LINE-OFF. -/
def silenced (s : State) : State := { s with line := { s.line with state := .lineOff, offTimer := some 250 } }

theorem test_base_is_calm : CalmOn base := by decide
theorem test_armed_is_calm : CalmOn armed ∧ SlotsFit armed := by decide
theorem test_flying_is_calm : CalmOn flyingRun := by decide

/-! ### Single steps -/

theorem test_start_at_own_ready :
    nextIs (exec (.ready 12 7 12 6 [12, 4]) armed)
      (fun t => t.axis.state == .flying && t.axis.brake == .released && t.engine.state == .playing) = true := by decide

theorem test_ready_wait_starts_without_claim :
    nextIs (exec (.ready 12 7 12 6 [12, 4]) { armed with reg := base.reg })
      (fun t => t.axis.state == .armed && t.cue.readyWait == some 15000) = true := by decide

theorem test_halt_cuts_run :
    nextIs (exec (.halt 4 7 0) flyingRun)
      (fun t => t.axis.state == .stopping && t.axis.ramp == some 100000000
        && newPosts flyingRun t == [.cut 7 6 2 31 0]) = true := by decide

theorem test_drop_gives_back_space :
    nextIs (exec (.drop 32 7 12 6) armed)
      (fun t => t.axis.state == .parked && newPosts armed t == [.cut 7 6 4 0 2, .release ⟨7, 2⟩]) = true := by decide

theorem test_release_of_run_key_cuts :
    nextIs (exec (.release 32 ⟨7, 2⟩) flyingRun)
      (fun t => t.axis.state == .stopping && newPosts flyingRun t == [.cut 7 6 2 31 5]) = true := by decide

theorem test_estop_enters_faulted :
    nextIs (exec (.axisSample ⟨100, 300, .released, false, false, false, true, false, false⟩) flyingRun)
      (fun t => t.axis.state == .faulted && t.axis.brake == .set && (newPosts flyingRun t).contains (.halt 7 1))
      = true := by decide

theorem test_ack_leaves_faulted :
    nextIs (exec (.ack 32 12 { noFaults with estop := true }) faultedStation)
      (fun t => t.axis.state == .parked) = true := by decide

theorem test_lock_then_master :
    nextIs (exec (.lock 33 12 1 740) base) (fun t => t.axis.state == .locked && t.lock.copy == some 740) = true
      ∧ nextIs (exec (.master 33 12 4 1205) lockedStation)
          (fun t => t.axis.state == .parked && t.lock.copy == none) = true := by decide

theorem test_wrong_code_stays_locked :
    nextIs (exec (.unlock 33 12 2 704) lockedStation)
      (fun t => t.axis.state == .locked && newPosts lockedStation t == [.notice ⟨17, 33, 7, none, 2⟩]) = true := by
  decide

theorem test_jog_down :
    nextIs (exec (.axisSample ⟨180, 300, .set, false, false, false, false, false, true⟩) lockedStation)
      (fun t => t.axis.demand == -50000 && t.axis.brake == .released) = true := by decide

theorem test_cue_waits_in_queue :
    nextIs (exec (.cue 32 7 12 6 0 255 255 0) base)
      (fun t => t.cue.queue == [⟨32, 7, 12, 6, 0, none, 0, false⟩] && newPosts base t == []) = true := by decide

theorem test_invalid_bank_refuses_head :
    nextIs (exec .takeCue { base with cue := { base.cue with queue := [⟨32, 7, 12, 6, 0, none, 0, false⟩] } })
      (fun t => t.cue.queue == [] && newPosts base t == [.notice ⟨13, 32, 7, some 6, 12⟩]) = true := by decide

theorem test_swap_needs_verify :
    nextIs (exec (.swap 32 255) base) (fun t => newPosts base t == [.notice ⟨21, 32, 7, none, 0⟩]) = true := by decide

theorem test_load_data_enters_buffer :
    nextIs (exec (.loadData 32 12 [5, 6]) base)
      (fun t => t.store.buffer == [(4096, 5), (4097, 6)] && t.store.index == 2) = true := by decide

theorem test_load_overrun :
    nextIs (exec (.loadData 32 12 [5, 6, 7, 8]) base)
      (fun t => t.store.index == 3 && newPosts base t == [.notice ⟨22, 32, 7, none, 1⟩]) = true := by decide

theorem test_lapse_of_member_in_flight :
    nextIs (exec (.lapse 4) { flyingRun with
        roster := Roster.put flyingRun.roster 4 { RosterEntry.absent with present := true, lapse := some 120 } })
      (fun t => newPosts flyingRun t == [.halt 7 3]) = true := by decide

/-- A station whose HALT is on the line, with a second post queued. -/
def haltOnLine : State :=
  { base with line := { base.line with
      queue := [⟨.halt 7 1, .plain, 0⟩, ⟨.clearStop, .plain, 1⟩], onLine := some (.own (.queued 0)), txSpoil := 3
      nextAge := 2 } }

set_option maxRecDepth 20000 in
/-- In ON a failed check drives the slot, and in JOINING, DEAF or without power nothing does; a withdrawn post's sender drives it. -/
theorem test_who_drives_the_slot :
    drivesSlot base (some .checkDiffers) = true ∧ drivesSlot base none = false
      ∧ drivesSlot { base with line := { base.line with onLine := some .withdrawn } } none = true
      ∧ drivesSlot { base with line := { base.line with state := .lineOff } } (some .coding) = true
      ∧ (∀ ls ∈ [LineState.joining, .deaf, .listenOnly],
          drivesSlot { base with line := { base.line with state := ls } } (some .coding) = false)
      ∧ drivesSlot State.reset (some .coding) = false
      ∧ slotDriven base claimFrame.coded = slotLevels false
      ∧ closeOf base (claimFrame.coded ++ slotLevels true) = .postSpoiled none
      ∧ closeOf base claimFrame.levels = .claim 4 ⟨3, 2⟩ ⟨20, 30, 20, 30, 4, 20⟩ := by decide

theorem test_own_post_leaves_queue :
    nextIs (exec (.notice 12 ⟨1, 2, 3, none, 4⟩) haltOnLine)
      (fun t => t.line.queue == [⟨.clearStop, .plain, 1⟩] && t.line.txSpoil == 0) = true := by decide

/-- The post of a twin, which carries this station's number, is not its own (07 R140). -/
theorem test_post_of_twin_is_not_own :
    nextIs (exec (.notice 12 ⟨1, 2, 3, none, 4⟩)
        { haltOnLine with line := { haltOnLine.line with onLine := some .other } })
      (fun t => t.line.queue == haltOnLine.line.queue && t.line.txSpoil == 3) = true := by decide

/-- NOTICE FLUSHED and HALT are older than the PRESENCE that reports the entry (05 R112, 07 R147). -/
theorem test_report_of_fault_is_youngest :
    nextIs (exec (.axisSample ⟨100, 300, .set, false, false, true, false, false, false⟩)
        { base with cue := { base.cue with queue := [⟨32, 7, 12, 6, 0, none, 0, false⟩] } })
      (fun t => t.line.queue == [⟨.notice ⟨15, 12, 7, none, 1⟩, .plain, 0⟩, ⟨.halt 7 2, .plain, 1⟩]
        && t.line.slot == some ⟨2, none⟩) = true := by decide

theorem test_lost_post_ends_at_idle :
    nextIs (exec .lineIdleSeen { base with line := { base.line with onLine := some .other } })
      (fun t => t.line.onLine == none) = true := by decide

theorem test_step_takes_front :
    nextIs (step { base with pending := [.clearStop 32, .stepEnd] }) (fun t => t.pending == [.stepEnd]) = true := by
  decide

theorem test_reset_idles : step State.reset = .next State.reset := rfl

/-- The lead HOLDING whose re-claim stands as given, with an untriggered cue of show 12 in its queue and eight HALTs in its outgoing queue. -/
def armsIntoFullQueue (r : Reclaim) : State :=
  { base with
    axis := { base.axis with state := .holding }
    cue := { base.cue with
      queue := [⟨32, 7, 12, 0, 0, none, 0, false⟩], held := some ⟨⟨7, 1⟩, boxB⟩, reclaim := r }
    store := { base.store with
      working := ⟨[12, 1, 0, 0x0501, 0, 4, 0x0201, 0x141E, 0x141E, 0x0414, 100, 0], true⟩ }
    line := { base.line with queue := (List.range 8).map (fun i => ⟨.halt 7 i, .plain, i⟩), nextAge := 8 } }

/-- A cue armed and, its READY discarded, dropped within one event ends the re-claim, and the drop makes it owed anew (R74, R192): the next RE_CLAIM posts its CLAIM. -/
theorem test_drop_within_event_owes_reclaim_anew :
    ∀ r ∈ [Reclaim.posted, .refused, .due],
      nextIs (exec .takeCue (armsIntoFullQueue r))
        (fun t => t.axis.state == .holding && t.cue.current == none && t.cue.reclaim == .due && reclaimDue t
          && nextIs (exec .reClaim { t with line := base.line })
              (fun u => newPosts base u == [.claim ⟨7, 1⟩ boxB])) = true := by decide

/-! ### Witnesses: states and operands that meet the hypotheses of the statements, clause by clause -/

/-- Winch inputs at rest, feedback SET. -/
def calmInputs : WinchInputs := ⟨100, 300, .set, false, false, false, false, false, false⟩

theorem witness_StillPartsTakeNothing :
    State.reset.power = .held
      ∧ (let s := { base with line := { base.line with state := .deaf } }
         s.power = .running ∧ s.line.state = .deaf ∧ (Instr.clearStop 4).delivered = some (4, .clearStop))
      ∧ (let s := { base with line := { base.line with state := .listenOnly } }
         s.power = .running ∧ s.line.state = .listenOnly)
      ∧ Instr.wf (.unfittingPost 4 ⟨0, 22, []⟩) = true := by decide

theorem witness_StartSequenceJoins_listenOnly :
    State.reset.power = .held ∧ readConfig State.reset.store.mem 12 = none := by decide

/-- Program memory of station 12 with a valid configuration record and nothing else written. -/
def configuredMemory : Memory :=
  (List.range 64).zip
    ([0x3A71, 3079, 258, 3072, 0, 30000, 300, 2000, 1000, 2000, 100, 5000, 100] ++ List.replicate 33 0
      ++ [1205] ++ List.replicate 16 0 ++ [25257])

set_option maxRecDepth 100000 in
theorem witness_StartSequenceJoins_configured :
    (State.held configuredMemory 0 []).power = .held
      ∧ (readConfig (State.held configuredMemory 0 []).store.mem 12).isSome = true := by decide

theorem witness_StartSequenceJoins_running : base.power = .running := by decide

theorem witness_RestartHolds : MemoryCanonical base := by decide

theorem witness_SampleEntersFaulted :
    CalmOn base ∧ base.axis.state ≠ .faulted ∧ base.axis.state ≠ .unconfigured
      ∧ (base.conf.overloadThreshold : Int) < ({ calmInputs with load := 5001 } : WinchInputs).load
      ∧ ({ calmInputs with estop := true } : WinchInputs).estop = true
      ∧ ({ calmInputs with driveFault := true } : WinchInputs).driveFault = true := by decide

/-- The station stopping from 2 mm/s. -/
def stoppingStation : State :=
  { base with axis := { base.axis with state := .stopping, brake := .released, demand := 2000, ramp := some 100000000 } }

/-- The sample at which the confirmation timer runs out, with the given feedback. -/
def confirming (s : State) : State := { s with axis := { s.axis with brakeTimer := some 1 } }

theorem witness_SampleEntersFaulted_brake :
    (let i : WinchInputs := { calmInputs with feedback := .released }
     (CalmOn (confirming base) ∧ keepsBrakeCommand i (confirming base) ∧ i.feedback ≠ (confirming base).axis.brake)
      ∧ (CalmOn (confirming armed) ∧ keepsBrakeCommand i (confirming armed))
      ∧ (CalmOn (confirming lockedStation) ∧ keepsBrakeCommand i (confirming lockedStation)))
    ∧ (CalmOn (confirming flyingRun) ∧ keepsBrakeCommand calmInputs (confirming flyingRun)
      ∧ calmInputs.feedback ≠ (confirming flyingRun).axis.brake)
    ∧ (let s := confirming { stoppingStation with axis := { stoppingStation.axis with demand := 2001 } }
       CalmOn s ∧ keepsBrakeCommand calmInputs s ∧ calmInputs.feedback ≠ s.axis.brake) :=
  ⟨⟨⟨by decide, Or.inr ⟨rfl, Or.inl rfl⟩, by decide⟩, ⟨by decide, Or.inr ⟨rfl, Or.inr (Or.inl rfl)⟩⟩,
      ⟨by decide, Or.inr ⟨rfl, Or.inr (Or.inr (Or.inr ⟨rfl, rfl, rfl, rfl⟩))⟩⟩⟩,
    ⟨by decide, Or.inl ⟨rfl, fun h => absurd h.1 (by decide)⟩, by decide⟩,
    ⟨by decide, Or.inr ⟨rfl, Or.inr (Or.inr (Or.inl ⟨rfl, Or.inr (by decide)⟩))⟩, by decide⟩⟩

/-- The plans watched in FLYING, on the ramp and at the brake wait, and what each of the three kinds finds. -/
theorem witness_SampleEntersFaulted_motion :
    (CalmOn flyingRun ∧ watchedPlan calmInputs flyingRun (100000000 + 39000))
    ∧ (CalmOn stoppingStation ∧ watchedPlan calmInputs stoppingStation 100000000)
    ∧ (let s := { stoppingStation with axis := { stoppingStation.axis with brake := .set, demand := 0 } }
       CalmOn s ∧ watchedPlan { calmInputs with feedback := .released } s 100000000)
    ∧ (let i : WinchInputs := ⟨0, 99, .released, false, false, false, false, false, false⟩
       ((stoppingStation.conf.followLimit : Int) * 1000000 < |100000001 - i.haul * 1000000|)
        ∧ i.load < (stoppingStation.conf.slackThreshold : Int)
        ∧ (stoppingStation.conf.maxHaul : Int) < 30001) := by
  refine ⟨⟨by decide, Or.inl ⟨rfl, by decide, ?_, by decide⟩⟩,
    ⟨by decide, Or.inr ⟨rfl, rfl, Or.inl ⟨rfl, 100000000, rfl, by decide⟩⟩⟩,
    ⟨by decide, Or.inr ⟨rfl, rfl, Or.inr ⟨rfl, rfl, rfl⟩⟩⟩, by decide⟩
  rintro ⟨h, _⟩
  exact absurd h (by decide)

theorem witness_SampleEntersFaulted_limitRises :
    let s := { stoppingStation with axis := { stoppingStation.axis with limits := some (false, true) } }
    CalmOn s ∧ s.axis.limits = some (false, true) := by decide

theorem witness_FaultedSampleAddsKinds :
    CalmOn faultedStation ∧ faultedStation.axis.state = .faulted ∧ faultedStation.engine.state = .idle := by decide

theorem witness_RestSampleFrame :
    Calm base ∧ AxisState.atRest base.axis.state = true ∧ base.engine.state = .idle ∧ calmInputs.estop = false
      ∧ calmInputs.driveFault = false ∧ calmInputs.load ≤ (base.conf.overloadThreshold : Int)
      ∧ base.axis.brakeTimer.map (· - 1) ≠ some 0 ∧ armed.axis.state = .armed ∧ armed.engine.state = .idle := by
  decide

/-- Jog inputs: up below the band, down above 0, and both bounds reached. -/
theorem witness_JogDecision :
    Calm lockedStation ∧ lockedStation.axis.state = .locked ∧ lockedStation.engine.state = .idle
      ∧ lockedStation.axis.brakeTimer.map (· - 1) ≠ some 0
      ∧ (let i : WinchInputs := ⟨299, 300, .set, false, false, false, false, true, false⟩
         i.jogUp = true ∧ i.jogDown = false ∧ i.haul < (lockedStation.conf.groundBand : Int) ∧ i.upper = false)
      ∧ (let i : WinchInputs := ⟨1, 300, .set, false, false, false, false, false, true⟩
         i.jogDown = true ∧ i.jogUp = false ∧ 0 < i.haul ∧ i.lower = false)
      ∧ (let i : WinchInputs := ⟨300, 300, .set, false, false, false, false, true, false⟩
         ¬(i.jogUp = true ∧ i.jogDown = false ∧ i.haul < (lockedStation.conf.groundBand : Int) ∧ i.upper = false)
          ∧ ¬(i.jogDown = true ∧ i.jogUp = false ∧ 0 < i.haul ∧ i.lower = false)) := by decide

theorem witness_StoppingRampAndBrakeWait :
    (let s := stoppingStation
     let i : WinchInputs := { calmInputs with feedback := .released }
     Calm s ∧ s.axis.state = .stopping ∧ s.engine.state = .idle ∧ i.estop = false ∧ i.driveFault = false
      ∧ i.load ≤ (s.conf.overloadThreshold : Int)
      ∧ s.axis.brake = .released ∧ s.axis.ramp = some 100000000 ∧ (s.conf.slackThreshold : Int) ≤ i.load
      ∧ s.axis.limits = none ∧ i.haul ≤ (s.conf.maxHaul : Int) ∧ s.axis.brakeTimer.map (· - 1) ≠ some 0
      ∧ |100000000 + rampStep s.axis.demand s.conf.stopDecel - i.haul * 1000000|
          ≤ (s.conf.followLimit : Int) * 1000000)
    ∧ (let s := { stoppingStation with axis := { stoppingStation.axis with brake := .set, demand := 0 } }
       Calm s ∧ s.axis.state = .stopping ∧ s.axis.brake = .set ∧ calmInputs.feedback = .set) := by decide

/-- A ramp at a limit reached before, its brake not yet seen released or its confirmation expiring at the ramp's end; and the wait for the brake, up to the sample before its confirmation expires. -/
theorem witness_StoppingRampAndBrakeWait_boundaries :
    (let s := { stoppingStation with axis := { stoppingStation.axis with brakeTimer := some 2, limits := some (true, false) } }
     let i : WinchInputs := { calmInputs with upper := true }
     Calm s ∧ noLimitRises i s ∧ i.feedback = .set ∧ s.axis.brakeTimer.map (· - 1) ≠ some 0)
    ∧ (Calm (confirming stoppingStation) ∧ (confirming stoppingStation).axis.brakeTimer.map (· - 1) = some 0
      ∧ rampStep 2000 stoppingStation.conf.stopDecel = 0)
    ∧ (let s := { stoppingStation with axis := { stoppingStation.axis with
          brake := .set, demand := 0, brakeTimer := some 2, limits := some (false, true) } }
       let i : WinchInputs := { calmInputs with feedback := .released, lower := true }
       Calm s ∧ s.axis.brake = .set ∧ i.feedback = .released ∧ s.axis.ramp = some 100000000 ∧ noLimitRises i s
        ∧ s.axis.brakeTimer.map (· - 1) ≠ some 0
        ∧ |100000000 - i.haul * 1000000| ≤ (s.conf.followLimit : Int) * 1000000) := by
  refine ⟨⟨by decide, ?_, rfl, by decide⟩, by decide, ⟨by decide, rfl, rfl, rfl, ?_, by decide, by decide⟩⟩
  · rintro u l ⟨⟩
    exact ⟨fun _ => rfl, fun h => absurd h (by decide)⟩
  · rintro u l ⟨⟩
    exact ⟨fun h => absurd h (by decide), fun _ => rfl⟩

/-- The flying station with another engine. -/
def flyingWith (e : Engine) : State := { flyingRun with engine := e }

/-- The flying station at its last step, slewed to 0 at the next sample. -/
def lastStep : State :=
  flyingWith { flyingRun.engine with dir := .back, stepsLeft := 1, remaining := 1, stepTimer := 1, demand := 500 }

theorem witness_FlyingDrivesEngineDemand :
    (let i : WinchInputs := { calmInputs with feedback := .released }
     CalmOn flyingRun ∧ flyingRun.axis.limits = none ∧ flyingRun.axis.state = .flying ∧ flyingRun.axis.brake = .released
      ∧ ¬completesAtSample flyingRun ∧ flyingRun.engine.state = .playing ∧ 2 ≤ flyingRun.engine.stepTimer
      ∧ i.load ≤ (flyingRun.conf.overloadThreshold : Int) ∧ (flyingRun.conf.slackThreshold : Int) ≤ i.load
      ∧ i.haul ≤ (flyingRun.conf.maxHaul : Int)
      ∧ |flyingRun.engine.planned + sampledDemand flyingRun - i.haul * 1000000|
          ≤ (flyingRun.conf.followLimit : Int) * 1000000)
    ∧ (let s := flyingWith { flyingRun.engine with stepTimer := 1 }
       ¬completesAtSample s ∧ s.engine.stepTimer ≤ 1)
    ∧ (let s := flyingWith { flyingRun.engine with state := .settling }
       ¬completesAtSample s ∧ s.engine.state = .settling)
    ∧ (let s := { flyingRun with axis := { flyingRun.axis with brakeTimer := some 200, limits := some (true, true) } }
       let i : WinchInputs := { calmInputs with upper := true, lower := true }
       CalmOn s ∧ noLimitRises i s ∧ i.feedback = .set ∧ s.axis.brakeTimer.map (· - 1) ≠ some 0) := by
  refine ⟨⟨by decide, rfl, rfl, rfl, fun h => absurd h.1 (by decide), by decide, by decide, by decide, by decide,
    by decide, by decide⟩, ⟨fun h => absurd h.1 (by decide), by decide⟩, ⟨fun h => absurd h.1 (by decide), rfl⟩,
    ⟨by decide, ?_, rfl, by decide⟩⟩
  rintro u l ⟨⟩
  exact ⟨fun _ => rfl, fun _ => rfl⟩

theorem witness_FlyingDrivesEngineDemand_completes :
    (CalmOn lastStep ∧ lastStep.axis.state = .flying ∧ lastStep.axis.brake = .released ∧ completesAtSample lastStep
      ∧ lastStep.cue.current = some { cueB with phase := .running })
    ∧ completesAtSample (flyingWith { flyingRun.engine with state := .settling, demand := 500 }) :=
  ⟨⟨by decide, rfl, rfl,
      ⟨by decide, Or.inr ⟨rfl, by decide, ⟨.swing, 6, 0, 3, 2, 50⟩, rfl, by decide, fun _ => ⟨rfl, by decide⟩⟩⟩, rfl⟩,
    ⟨by decide, Or.inl rfl⟩⟩

theorem witness_SlewRule : |(400 : Int) - 0| ≤ ((400 : Nat) : Int) ∧ ((399 : Nat) : Int) < |(400 : Int) - 0| := by decide

theorem witness_StepEndMovesCursor :
    (let e := { flyingRun.engine with play := some ⟨.once, 5, 30, 4, 0, 50⟩, row := 5, col := 31, stepsLeft := 2 }
     Calm (flyingWith e) ∧ e.state = .playing ∧ 2 ≤ e.stepsLeft)
    ∧ (let e := { flyingRun.engine with play := some ⟨.back, 5, 0, 4, 0, 50⟩, row := 6, dir := .back }
       Calm (flyingWith e) ∧ e.state = .playing ∧ 2 ≤ e.stepsLeft)
    ∧ (flyingRun.engine.play = some ⟨.swing, 6, 0, 3, 2, 50⟩ ∧ 2 ≤ flyingRun.engine.stepsLeft)
    ∧ (let e := { flyingRun.engine with stepsLeft := 1 }
       e.play = some ⟨.swing, 6, 0, 3, 2, 50⟩ ∧ e.dir = .forward ∧ e.stepsLeft = 1)
    ∧ (let e := { flyingRun.engine with stepsLeft := 1, dir := .back }
       e.dir = .back ∧ e.stepsLeft = 1 ∧ 2 ≤ e.remaining)
    ∧ (let e := { flyingRun.engine with stepsLeft := 1, dir := .back, remaining := 1 }
       e.stepsLeft = 1 ∧ e.remaining = 1 ∧ e.demand ≠ 0 ∧ e.dir ≠ .forward)
    ∧ (let s := flyingWith { lastStep.engine with demand := 0 }
       Calm s ∧ s.line.state = .on ∧ s.engine.stepsLeft = 1 ∧ s.engine.remaining = 1 ∧ s.engine.demand = 0
        ∧ s.axis.state = .flying ∧ s.cue.current = some { cueB with phase := .running }) := by decide

theorem witness_BrakeConfirmationTests :
    (let s := { base with axis := { base.axis with brakeTimer := some 1 } }
     CalmOn s ∧ s.axis.state ≠ .unconfigured ∧ s.axis.brakeTimer = some (0 + 1) ∧ s.axis.inputs.feedback = s.axis.brake)
    ∧ (let s := { base with axis := { base.axis with
          brakeTimer := some 200, inputs := { calmInputs with feedback := .released } } }
       CalmOn s ∧ s.axis.brakeTimer = some (199 + 1) ∧ s.axis.inputs.feedback ≠ s.axis.brake) := by decide

/-- The station with a PRESENCE waiting in its slot. -/
def slotWaits : State := { base with line := { base.line with slot := some ⟨0, none⟩, nextAge := 1 } }

theorem witness_PostBeginArbitrates :
    Calm slotWaits ∧ slotWaits.line.state = .on ∧ slotWaits.line.onLine = none
      ∧ Line.select slotWaits.line = some ⟨3, 0, .slot⟩
      ∧ (∀ o ∈ [(⟨3, 13⟩ : Contender)], 3 < o.cls ∨ (3 = o.cls ∧ slotWaits.strap ≤ o.sender))
      ∧ (∃ o ∈ [(⟨3, 4⟩ : Contender)], o.cls < 3 ∨ (3 = o.cls ∧ o.sender < slotWaits.strap))
      ∧ slotWaits.line.queue = [] ∧ slotWaits.line.retry = none ∧ slotWaits.line.slot = some ⟨0, none⟩ := by decide

/-- A TABLE-START of the older age beside a NOTICE. -/
def startQueued : State :=
  { base with line := { base.line with
      queue := [⟨.tableStart 4 0 0, .plain, 0⟩, ⟨.notice ⟨1, 2, 3, none, 4⟩, .plain, 1⟩], nextAge := 2 } }

theorem witness_PostBeginArbitrates_selects :
    (let l := { startQueued.line with retry := some (.queued 1) }
     l.retry = some (.queued 1) ∧ ∃ o ∈ l.queue, o.age = 1)
    ∧ (let l := { slotWaits.line with retry := some .slot }
       l.retry = some .slot ∧ l.slot.isSome = true)
    ∧ (base.line.retry = none ∧ base.line.queue = [] ∧ base.line.slot = none)
    ∧ (startQueued.line.retry = none ∧ startQueued.line.queue ≠ [])
    ∧ (Calm startQueued ∧ startQueued.line.state = .on ∧ startQueued.line.onLine = none
      ∧ Line.select startQueued.line = some ⟨1, 0, .queued 0⟩
      ∧ startQueued.line.queue.find? (fun x => x.age == 0) = some ⟨.tableStart 4 0 0, .plain, 0⟩)
    ∧ (let s := { startQueued with line := { startQueued.line with retry := some (.queued 1) } }
       Line.select s.line = some ⟨3, 1, .queued 1⟩
        ∧ s.line.queue.find? (fun x => x.age == 1) = some ⟨.notice ⟨1, 2, 3, none, 4⟩, .plain, 1⟩
        ∧ ∀ x ∈ s.line.queue, x.age = 1 → x = ⟨.notice ⟨1, 2, 3, none, 4⟩, .plain, 1⟩) := by decide

theorem witness_SpoiledPostIsRetriedUpToLineOff :
    (let s := { slotWaits with line := { slotWaits.line with onLine := some (.own .slot), txSpoil := 6, rxSpoil := 6 } }
     Calm s ∧ s.line.state = .on ∧ s.line.onLine = some (.own .slot) ∧ s.line.txSpoil + 1 < 8 ∧ s.line.rxSpoil + 1 < 8)
    ∧ (let s := { armed with line := { slotWaits.line with onLine := some (.own .slot), txSpoil := 7 } }
       Calm s ∧ s.line.txSpoil + 1 = 8 ∧ s.cue.current = some cueB ∧ cueB.phase = .armed ∧ s.axis.state = .armed)
    ∧ (let s := { flyingRun with line := { slotWaits.line with onLine := some (.own .slot), txSpoil := 7 } }
       Calm s ∧ s.line.txSpoil + 1 = 8 ∧ s.cue.current = some { cueB with phase := .running }
        ∧ s.axis.state = .flying) := by decide

/-- The lead's drop keeps its RELEASE, one under the held key keeps what was owed, and each phase of the sync protocol meets the entry. -/
theorem witness_SpoiledPostIsRetriedUpToLineOff_kept :
    (givesBack armed cueB ∧ ¬givesBack { armed with cue := { armed.cue with held := some ⟨⟨7, 2⟩, boxB⟩ } } cueB)
    ∧ (∀ ph ∈ [Phase.idle, .posting, .awaiting, .copying, .resting],
      let s := { asking ph with line := { slotWaits.line with onLine := some (.own .slot), txSpoil := 7 } }
      Calm s ∧ s.line.txSpoil + 1 = 8 ∧ s.sync.phase = ph ∧ s.cue.current = none) := by
  decide

theorem witness_EighthBadPostEntersDeaf :
    let s := { base with line := { base.line with onLine := some .other, rxSpoil := 7 } }
    Receives s ∧ s.line.onLine = some .other ∧ s.line.rxSpoil + 1 = 8
      ∧ (some SpoilCause.checkDiffers) ≠ none ∧ (some SpoilCause.checkDiffers) ≠ some .readBack
      ∧ s.axis.state ≠ .unconfigured := by decide

theorem witness_RosterAloneTakes :
    Receives base ∧ Receives { base with line := { base.line with state := .lineOff } }
      ∧ Receives haltOnLine ∧ haltOnLine.strap = 12 ∧ haltOnLine.line.onLine = some (.own (.queued 0))
      ∧ (let s := { slotWaits with line := { slotWaits.line with onLine := some (.own .slot), further := true } }
         Receives s ∧ s.line.onLine = some (.own .slot))
      ∧ Receives { haltOnLine with line := { haltOnLine.line with onLine := some .other } } := by decide

theorem witness_RosterAloneTakes_owed :
    (let s := { haltOnLine with cue := { haltOnLine.cue with
          owed := [⟨.cut 7 6 1 0 0, .plain⟩, ⟨.done 7 6 1, .plain⟩, ⟨.release ⟨7, 2⟩, .plain⟩] } }
     s.power = .running ∧ s.line.reports = [] ∧ AgesBelow s.line ∧ s.line.state = .on
      ∧ s.line.queue.length + s.cue.owed.length ≤ 8)
    ∧ (let s := { armed with line := haltOnLine.line, cue := { armed.cue with owed := [⟨.claim ⟨7, 2⟩ boxB, .plain⟩] } }
       s.line.queue.length + s.cue.owed.length ≤ 8 ∧ s.cue.current = some cueB ∧ cueB.phase = .armed
        ∧ cueB.runKey = ⟨7, 2⟩) := by decide

theorem witness_HaltStopsAndClearStopClears :
    CalmOn base ∧ base.axis.state ≠ .unconfigured ∧ 1 ≤ base.flyer ∧ base.flyer ≤ 15
      ∧ armed.cue.current = some cueB ∧ armed.axis.state = .armed ∧ flyingRun.axis.state = .flying
      ∧ (3 ≠ base.flyer ∧ (3 : Nat) ≠ 255) ∧ Receives base
      ∧ Receives (silenced armed) ∧ Receives (silenced flyingRun) ∧ (silenced armed).line.state = .lineOff := by decide

/-! #### The airspace register and the sync protocol -/

/-- `n` entries, four to a flyer from flyer 1 on. -/
def tableOf (n : Nat) : List Entry := (List.range n).map (fun i => ⟨⟨i / 4 + 1, i % 4⟩, boxB⟩)

theorem witness_ClaimIsEvaluated : Receives base ∧ base.sync.phase ≠ .copying ∧ base.cue.current = none := by decide

/-- The armed set lead whose space another flyer holds, the space wait begun or not. -/
def spaceTaken (begun : Bool) : State :=
  { armed with
    reg := { armed.reg with table := [⟨⟨3, 0⟩, boxB⟩] }
    cue := { armed.cue with current := some { cueB with spaceBegun := begun } } }

/-- The set lead HOLDING with a held claim that the register has lost, its re-claim as given. -/
def reclaiming (r : Reclaim) : State :=
  { spaceTaken false with
    axis := { base.axis with state := .holding }
    cue := { base.cue with held := some ⟨⟨7, 2⟩, boxB⟩, reclaim := r } }

/-- The armed set lead with every slot filled and its space not yet granted. -/
def onlySpaceMissing : State :=
  { armed with reg := base.reg, cue := { armed.cue with slots := [some (12, 6), some (12, 6)] } }

theorem witness_ClaimIsEvaluated_cueUnit :
    (∀ b ∈ [true, false], CalmOn (spaceTaken b) ∧ (spaceTaken b).sync.phase ≠ .copying
      ∧ (spaceTaken b).cue.current = some { cueB with spaceBegun := b } ∧ cueB.phase = .armed
      ∧ (spaceTaken b).isLead = true ∧ startCondition (spaceTaken b) = false
      ∧ (claimVerdict (spaceTaken b).reg.zones (spaceTaken b).reg.table cueB.runKey boxB).refused = true)
    ∧ (CalmOn (reclaiming .posted) ∧ (reclaiming .posted).cue.current = none
      ∧ reclaimOwed (reclaiming .posted) ⟨⟨7, 2⟩, boxB⟩
      ∧ (claimVerdict (reclaiming .posted).reg.zones (reclaiming .posted).reg.table ⟨7, 2⟩ boxB).refused = true)
    ∧ (CalmOn onlySpaceMissing ∧ onlySpaceMissing.cue.current = some cueB ∧ onlySpaceMissing.axis.state = .armed
      ∧ (∀ x ∈ onlySpaceMissing.cue.slots, x = some (cueB.showNo, cueB.segment))
      ∧ (claimVerdict onlySpaceMissing.reg.zones onlySpaceMissing.reg.table cueB.runKey cueB.box).refused = false) := by
  unfold reclaimOwed
  decide

theorem witness_NewClaimLimits :
    let k : Key := ⟨9, 7⟩
    Key.wf k = true ∧ Box.wf boxB = true
      ∧ (findEntry (tableOf 24) k = none ∧ 24 ≤ (tableOf 24).length)
      ∧ (findEntry (tableOf 23) ⟨5, 7⟩ = none ∧ (tableOf 23).length < 24 ∧ 4 ≤ countOf (tableOf 23) 5)
      ∧ (findEntry (tableOf 23) ⟨6, 7⟩ = none ∧ countOf (tableOf 23) 6 < 4)
      ∧ claimVerdict [] (tableOf 24) k boxB = .full ∧ claimVerdict [] (tableOf 23) ⟨5, 7⟩ boxB = .limit
      ∧ claimVerdict [] (tableOf 23) ⟨6, 7⟩ boxB = .overlap ∧ claimVerdict [] [] k boxB = .appended
      ∧ claimVerdict [⟨boxB, some 8⟩] [] k boxB = .zone := by decide

theorem witness_ClaimVerdictEffects :
    let t : List Entry := [⟨⟨7, 2⟩, boxB⟩]
    Key.wf ⟨16, 0⟩ = false ∧ Key.wf ⟨0, 0⟩ = false ∧ Key.wf ⟨1, 8⟩ = false ∧ Box.wf ⟨1, 0, 0, 0, 0, 0⟩ = false
      ∧ Box.wf ⟨0, 63, 0, 63, 0, 32⟩ = false ∧ Key.wf ⟨1, 0⟩ = true ∧ Key.wf ⟨15, 7⟩ = true
      ∧ Box.wf ⟨0, 63, 0, 63, 0, 31⟩ = true ∧ findEntry t ⟨7, 3⟩ = none ∧ findEntry t ⟨7, 2⟩ = some ⟨⟨7, 2⟩, boxB⟩
      ∧ claimVerdict [] t ⟨7, 3⟩ boxB = .appended ∧ claimVerdict [] t ⟨7, 2⟩ ⟨0, 63, 0, 63, 0, 31⟩ = .resized
      ∧ claimVerdict [] t ⟨7, 2⟩ boxB = .unchanged := by decide

theorem witness_SeparationKept :
    Separated [⟨⟨7, 2⟩, boxB⟩, ⟨⟨8, 0⟩, ⟨31, 31, 0, 0, 0, 0⟩⟩]
      ∧ claimVerdict [⟨boxB, some 7⟩] [⟨⟨7, 2⟩, boxB⟩] ⟨7, 3⟩ boxB = .appended
      ∧ claimVerdict [⟨boxB, some 7⟩] [⟨⟨7, 2⟩, boxB⟩] ⟨7, 2⟩ ⟨0, 63, 0, 63, 0, 31⟩ = .resized := by decide

theorem witness_ReleaseRemovesEntryAndCutsRun :
    Receives armed ∧ armed.sync.phase ≠ .copying ∧ (∃ e ∈ armed.reg.table, e.key = ⟨7, 2⟩)
      ∧ (∀ e ∈ armed.reg.table, e.key ≠ ⟨7, 3⟩)
      ∧ CalmOn flyingRun ∧ flyingRun.sync.phase ≠ .copying
      ∧ flyingRun.cue.current = some { cueB with phase := .running } ∧ flyingRun.axis.state = .flying
      ∧ hasKey flyingRun.reg.table cueB.runKey = true := by decide

/-- The state with a CLAIM of its own waiting in the outgoing queue. -/
def claimQueued (s : State) : State :=
  { s with line := { s.line with queue := [⟨.claim ⟨7, 2⟩ boxB, .plain, 0⟩], nextAge := 1 } }

theorem witness_ReleaseRemovesEntryAndCutsRun_held :
    let s := { flyingRun with cue := { flyingRun.cue with held := some ⟨⟨7, 1⟩, boxB⟩ } }
    CalmOn s ∧ s.cue.current = some { cueB with phase := .running } ∧ s.cue.held = some ⟨⟨7, 1⟩, boxB⟩
      ∧ (⟨7, 1⟩ : Key) ≠ cueB.runKey := by decide

theorem witness_ReleaseRemovesEntryAndCutsRun_spaceWait :
    (CalmOn armed ∧ armed.isLead = true ∧ armed.cue.current = some cueB ∧ cueB.phase = .armed
      ∧ armed.axis.state = .armed ∧ cueB.spaceBegun = false ∧ hasKey armed.reg.table cueB.runKey = true
      ∧ hasEntry (armed.reg.table.eraseP (fun e => e.key == cueB.runKey)) cueB.runKey cueB.box = false
      ∧ armed.line.queue = [])
    ∧ (let s := { spaceTaken true with cue := { (spaceTaken true).cue with spaceWait := some 10000 } }
       CalmOn s ∧ s.isLead = true ∧ s.cue.current = some { cueB with spaceBegun := true } ∧ s.axis.state = .armed
        ∧ s.cue.spaceWait = some 10000 ∧ (⟨3, 0⟩ : Key) ≠ cueB.runKey
        ∧ hasEntry s.reg.table cueB.runKey cueB.box = false ∧ s.line.queue = [] ∧ CalmOn (claimQueued s)
        ∧ (4 : Nat) ≠ s.strap)
    ∧ (armed.cue.spaceWait = none ∧ startCondition armed = false) := by decide

theorem witness_ReleaseRemovesEntryAndCutsRun_reclaim :
    CalmOn (reclaiming .refused) ∧ (reclaiming .refused).cue.current = none
      ∧ reclaimOwed (reclaiming .refused) ⟨⟨7, 2⟩, boxB⟩ ∧ (reclaiming .refused).cue.reclaim = .refused
      ∧ (reclaiming .refused).line.queue = [] ∧ CalmOn (claimQueued (reclaiming .refused)) := by
  unfold reclaimOwed
  decide

theorem witness_ReleaseRemovesEntryAndCutsRun_starts :
    let s := { armed with cue := { armed.cue with slots := [some (12, 6), some (12, 6)] } }
    CalmOn s ∧ s.cue.current = some cueB ∧ startCondition s = true ∧ s.axis.state = .armed
      ∧ (⟨3, 0⟩ : Key) ≠ cueB.runKey := by decide

/-- Copying with `n` changes held. -/
def copyingWith (n : Nat) : State :=
  let s := asking .copying
  { s with sync := { s.sync with changes := List.replicate n (.release 3 ⟨7, 2⟩) } }

theorem witness_CopyingHoldsChanges :
    Receives (copyingWith 7) ∧ (copyingWith 7).sync.phase = .copying ∧ (copyingWith 7).sync.changes.length < 8
      ∧ Receives (copyingWith 8) ∧ (copyingWith 8).sync.phase = .copying
      ∧ 8 ≤ (copyingWith 8).sync.changes.length := by decide

/-- The station as responder of station 4, whose answer runs with the given snapshot. -/
def answering (snap : Option Snapshot) : State :=
  { base with sync := { base.sync with waitList := [4, 5, 6], answer := some ⟨snap⟩ } }

theorem witness_SyncIsAnswered :
    (CalmOn base ∧ base.reg.state = .current ∧ (31 : Nat) ≠ base.strap ∧ 31 ∉ base.sync.waitList
      ∧ base.sync.waitList = [] ∧ base.sync.waitList.length < 4)
    ∧ (CalmOn (answering none) ∧ 0 ∉ (answering none).sync.waitList ∧ (answering none).sync.waitList ≠ []
      ∧ (answering none).sync.waitList.length < 4 ∧ 4 ∈ (answering none).sync.waitList)
    ∧ (CalmOn (asking .posting) ∧ (asking .posting).strap = 12 ∧ (asking .posting).sync.phase = .posting
      ∧ (asking .posting).reg.state ≠ .current)
    ∧ (Receives (silenced base) ∧ (silenced base).line.state = .lineOff ∧ (31 : Nat) < 32
      ∧ (silenced base).sync.phase ≠ .posting) := by decide

theorem witness_TableStartBeginsCopy :
    (CalmOn (asking .awaiting) ∧ (4 : Nat) ≠ (asking .awaiting).strap ∧ (asking .awaiting).sync.responder = some 4
      ∧ (asking .awaiting).sync.phase = .awaiting ∧ (24 : Nat) ≤ 24 ∧ (24 : Nat) < 25)
    ∧ (let s := answering (some ⟨41, [⟨⟨7, 2⟩, boxB⟩]⟩)
       CalmOn s ∧ s.strap = 12 ∧ s.sync.answer = some ⟨some ⟨41, [⟨⟨7, 2⟩, boxB⟩]⟩⟩
        ∧ s.sync.waitList.head? = some 4) := by decide

theorem witness_TableEntryIsCopied :
    let s := asking .copying
    CalmOn s ∧ (4 : Nat) ≠ s.strap ∧ s.sync.responder = some 4 ∧ s.sync.phase = .copying ∧ s.sync.received = 0
      ∧ s.sync.received < s.sync.expected ∧ Key.wf ⟨7, 2⟩ = true ∧ Box.wf boxB = true
      ∧ (1 : Nat) ≠ s.sync.received ∧ Key.wf ⟨7, 8⟩ = false
      ∧ s.sync.responder ≠ some 5 ∧ (5 : Nat) ≠ s.strap ∧ CalmOn (asking .awaiting)
      ∧ (asking .awaiting).sync.phase ≠ .copying ∧ CalmOn (answering (some ⟨41, [⟨⟨7, 2⟩, boxB⟩]⟩)) := by decide

theorem witness_TableEndMakesCurrent :
    (let s := { copyingWith 8 with
        sync := { (copyingWith 8).sync with expected := 0 } }
     CalmOn s ∧ (4 : Nat) ≠ s.strap ∧ s.sync.responder = some 4 ∧ s.sync.phase = .copying ∧ s.reg.state = .syncing
      ∧ s.cue.current = none ∧ s.sync.expected = 0 ∧ s.sync.received = 0 ∧ (1 : Nat) ≠ s.sync.expected)
    ∧ CalmOn (answering none) ∧ (answering none).sync.answer = some ⟨none⟩
    ∧ (answering none).sync.waitList.head? = some 4 ∧ (answering none).sync.waitList.tail = [5, 6]
    ∧ (let s := { answering none with sync := { (answering none).sync with waitList := [4] } }
       CalmOn s ∧ s.sync.waitList.head? = some 4 ∧ s.sync.waitList.tail = [])
    ∧ (CalmOn (asking .awaiting) ∧ (asking .awaiting).sync.phase ≠ .copying
      ∧ (asking .copying).sync.responder ≠ some 5) := by decide

/-- The requester with station 5 present and CURRENT, having last asked station 4. -/
def peersFound : State :=
  let s := asking .awaiting
  let e := { RosterEntry.absent with present := true, seen := true, reg := some .current, lapse := some 120 }
  { s with roster := Roster.put (Roster.put s.roster 4 e) 5 e, sync := { s.sync with winchSeen := true } }

theorem witness_SyncTimersExpire_nextAsked :
    CalmOn peersFound ∧ peersFound.sync.failed + 1 < 3 ∧ peersFound.reg.state = .syncing
      ∧ nextAsked peersFound peersFound.sync.responder 5 ∧ nextAsked peersFound none 4
      ∧ (let s := { peersFound with sync := { peersFound.sync with alone := .running, phase := .idle } }
         CalmOn s ∧ s.sync.alone = .running ∧ s.sync.winchSeen = true ∧ s.sync.phase = .idle)
      ∧ (let s := { peersFound with sync := { peersFound.sync with phase := .resting, retryTimer := some 5000 } }
         CalmOn s ∧ s.sync.retryTimer = some 5000) := by
  have two : ∀ m, reportsCurrent peersFound m → 4 ≤ m ∧ m ≤ 5 := by
    have : ∀ m < 32, (peersFound.roster.entry m).present = true → 4 ≤ m ∧ m ≤ 5 := by decide
    exact fun m h => this m h.1 h.2.2.1
  refine ⟨by decide, by decide, by decide, ⟨by unfold reportsCurrent; decide, Or.inl ⟨4, by decide, by decide, ?_⟩⟩,
    ⟨by unfold reportsCurrent; decide, Or.inr ⟨?_, fun m h => (two m h).1⟩⟩, by decide, by decide⟩
  · exact fun m _ h => h
  · rintro p h
    cases h

theorem witness_SyncTimersExpire_noneCurrent :
    (let s := asking .awaiting
     CalmOn s ∧ s.sync.beenCurrent = true ∧ (∀ m < 48, (s.roster.entry m).present = false))
    ∧ (let s := { asking .awaiting with
          roster := Roster.put (asking .awaiting).roster 3 { RosterEntry.absent with present := true } }
       CalmOn s ∧ (s.roster.entry 3).present = true ∧ (3 : Nat) < s.strap
        ∧ (∀ m < 32, (s.roster.entry m).seen = false)) := by decide

theorem witness_SyncTimersExpire :
    (let s := { asking .posting with sync := { (asking .posting).sync with alone := .running } }
     CalmOn s ∧ s.sync.alone = .running ∧ s.reg.state = .syncing ∧ s.sync.winchSeen = false)
    ∧ (let s := { asking .awaiting with sync := { (asking .awaiting).sync with failed := 2 } }
       CalmOn s ∧ s.sync.attemptTimer = some 1000 ∧ s.sync.failed + 1 = 3)
    ∧ (CalmOn (asking .awaiting) ∧ (asking .awaiting).sync.failed + 1 < 3)
    ∧ (let s := { asking .resting with sync := { (asking .resting).sync with retryTimer := some 5000 } }
       CalmOn s ∧ s.sync.retryTimer = some 5000) := by decide

/-! #### Cues and the set -/

/-- An untriggered queue entry of show 12, and one triggered by segment 3 of station 4 with its trigger seen. -/
def headOf (segment : Nat) : CueEntry := ⟨32, 7, 12, segment, 0, none, 0, false⟩
def triggeredHead : CueEntry := ⟨32, 7, 12, 0, 0, some (4, 3), 0, true⟩

/-- The station with the given queue and a working copy of show 12 whose segment 0 is a ONCE at haul 100. -/
def queued (q : List CueEntry) : State :=
  { base with
    cue := { base.cue with queue := q, chainDelay := some 0 }
    store := { base.store with
      working := ⟨[12, 1, 0, 0x0501, 0, 4, 0x0201, 0x141E, 0x141E, 0x0414, 100, 0], true⟩ } }

theorem witness_CueIsQueuedOrRefused :
    CalmOn base ∧ base.flyer = 7 ∧ (47 : Nat) ≤ 47 ∧ base.lock.copy = none ∧ base.cue.showStop = false
      ∧ CalmOn lockedStation ∧ lockedStation.lock.copy.isSome = true
      ∧ CalmOn (queued (List.replicate 8 (headOf 0))) ∧ 8 ≤ (queued (List.replicate 8 (headOf 0))).cue.queue.length
      ∧ CalmOn (queued [headOf 0]) ∧ (∃ e ∈ (queued [headOf 0]).cue.queue, e.showNo = 12 ∧ e.segment = 0)
      ∧ Receives (silenced base) ∧ Receives (silenced lockedStation) := by decide

theorem witness_DropRemovesOrDrops :
    CalmOn armed ∧ armed.flyer = 7 ∧ armed.cue.current = some cueB ∧ cueB.phase = .armed ∧ cueB.segment ≤ 47
      ∧ CalmOn flyingRun ∧ flyingRun.cue.current = some { cueB with phase := .running }
      ∧ CalmOn base ∧ base.cue.current = none := by decide

theorem witness_DropReturnsToOrigin :
    CalmOn armed ∧ armed.cue.current = some cueB ∧ cueB.phase = .armed ∧ cueB.segment ≤ 47
      ∧ armed.axis.state = .armed ∧ armed.axis.origin = some .parked := by decide

theorem witness_ReadyIsRecorded :
    let s := { armed with reg := base.reg }
    Receives s ∧ SlotsFit s ∧ 12 ∈ s.members ∧ 4 ∈ s.members ∧ 1 ≤ s.members.length ∧ s.members.length ≤ 4
      ∧ s.strap = 12 ∧ s.cue.current = some cueB ∧ hasEntry s.reg.table cueB.runKey cueB.box = false := by decide

/-- The register holds the entry, and the READY recorded leaves the other slot empty, filled for another show, or belongs to another segment. -/
theorem witness_ReadyIsRecorded_between :
    (∀ v ∈ [none, some (13, 6), some (12, 7)],
      let s := { armed with cue := { armed.cue with slots := [none, v] } }
      Receives s ∧ SlotsFit s ∧ hasEntry s.reg.table cueB.runKey cueB.box = true
        ∧ ∃ i < s.members.length, s.members[i]? ≠ some 12
            ∧ s.cue.slots[i]? ≠ some (some (cueB.showNo, cueB.segment)))
    ∧ (Receives armed ∧ hasEntry armed.reg.table cueB.runKey cueB.box = true ∧ cueB.segment ≠ 7) := by decide

theorem witness_ReadyStartsTheRun :
    CalmOn armed ∧ SlotsFit armed ∧ 12 ∈ armed.members ∧ armed.members.length ≤ 4 ∧ armed.cue.current = some cueB
      ∧ cueB.phase = .armed ∧ armed.axis.state = .armed
      ∧ (∀ i < 2, armed.members[i]? ≠ some 12 → armed.cue.slots[i]? = some (some (cueB.showNo, cueB.segment)))
      ∧ hasEntry armed.reg.table cueB.runKey cueB.box = true := by decide

theorem witness_MismatchedReadyDropsTheCue :
    CalmOn armed ∧ (4 : Nat) ∈ armed.members ∧ [12, 5] ≠ armed.members ∧ (3 : Nat) ∉ armed.members
      ∧ startCondition armed = false ∧ armed.cue.current = some cueB ∧ cueB.phase = .armed
      ∧ CalmOn flyingRun ∧ startCondition flyingRun = false := by decide

theorem witness_SetPosts :
    CalmOn armed ∧ SlotsFit armed ∧ (4 : Nat) ∈ armed.members ∧ (3 : Nat) ∉ armed.members
      ∧ armed.members.head? = some 12 ∧ armed.strap = 12 ∧ armed.cue.current = some cueB ∧ cueB.phase = .armed
      ∧ (let s := { armed with strap := 4 }
         CalmOn s ∧ SlotsFit s ∧ s.members.head? = some 12 ∧ (12 : Nat) ≠ s.strap)
      ∧ (let s := { silenced armed with strap := 4 }
         Receives s ∧ SlotsFit s ∧ s.line.state = .lineOff ∧ s.cue.current = some cueB)
      ∧ (Receives (silenced armed) ∧ SlotsFit (silenced armed) ∧ givesBack (silenced armed) cueB)
      ∧ (CalmOn flyingRun ∧ SlotsFit flyingRun ∧ flyingRun.cue.current = some { cueB with phase := .running })
      ∧ cueB.segment ≠ 7 := by decide

theorem witness_DoneSetsTriggerSeen :
    Receives (queued [triggeredHead]) ∧ (queued [triggeredHead]).cue.queue[0]? = some triggeredHead
      ∧ triggeredHead.trigger = some (4, 3) ∧ triggeredHead.trigger ≠ some (4, 4) := by decide

theorem witness_HeadIsTaken :
    (CalmOn (queued [headOf 0]) ∧ SlotsFit (queued [headOf 0]) ∧ eligible (queued [headOf 0]) (headOf 0)
      ∧ takingRefusal (queued [headOf 0]) (headOf 0) = none ∧ (headOf 0).trigger = none)
    ∧ (CalmOn (queued [headOf 1]) ∧ eligible (queued [headOf 1]) (headOf 1)
      ∧ takingRefusal (queued [headOf 1]) (headOf 1) = some 5)
    ∧ (CalmOn (queued [triggeredHead]) ∧ SlotsFit (queued [triggeredHead])
      ∧ eligible (queued [triggeredHead]) triggeredHead ∧ (queued [triggeredHead]).cue.chainDelay = some 0) := by
  unfold eligible
  decide

theorem witness_WaitsExpire :
    let s := { armed with
      cue := { armed.cue with readyWait := some 15000, spaceWait := some 10000 }
      roster := { armed.roster with presenceTimer := some 40 } }
    CalmOn s ∧ s.roster.presenceTimer = some 40 ∧ s.cue.readyWait = some 15000 ∧ s.cue.spaceWait = some 10000
      ∧ s.cue.current = some cueB ∧ cueB.phase = .armed := by decide

/-- The state with a queue of eight posts, the first as given and seven HALTs. -/
def fullQueue (s : State) (p : Post) (u : PostUse) : State :=
  { s with line := { s.line with
      queue := ⟨p, u, 0⟩ :: (List.range 7).map (fun i => ⟨.halt 7 i, .plain, i + 1⟩), nextAge := 8 } }

theorem witness_WaitsExpire_fullQueue :
    let s := fullQueue { armed with cue := { armed.cue with readyWait := some 15000, spaceWait := some 10000 } }
      (.claim ⟨7, 2⟩ boxB) .plain
    s.power = .running ∧ s.line.reports = [] ∧ s.line.state = .on ∧ s.line.queue.length = 8
      ∧ (∀ p ∈ s.line.queue, Post.cls p.post ≤ 2) ∧ s.cue.current = some cueB ∧ cueB.phase = .armed
      ∧ s.axis.state = .armed ∧ s.axis.origin = some .parked ∧ s.cue.readyWait = some 15000
      ∧ s.cue.spaceWait = some 10000 := by decide

/-! #### Presence -/

/-- A PRESENCE of a CURRENT peer with the given generation, showing nothing else. -/
def shown (ax : AxisState) (g : Word) (stop : Bool) : Presence :=
  ⟨some ax, some .current, 7, 12, g, some 6, 31, 0, 0, noFaults, stop, false, false, false, false⟩

/-- The station with the agree marks of stations 4 and 5 as given. -/
def marked (a b : Mark) : State :=
  let e := { RosterEntry.absent with present := true, seen := true, reg := some .current, lapse := some 120 }
  { base with roster := Roster.put (Roster.put base.roster 4 { e with mark := a }) 5 { e with mark := b } }

theorem witness_PresenceIsRecorded :
    CalmOn base ∧ base.strap = 12 ∧ base.reg.state = .current ∧ (31 : Nat) ≠ base.strap ∧ (31 : Nat) < 32
      ∧ (shown .parked 41 false).generation = base.reg.generation
      ∧ (shown .parked 42 false).generation ≠ base.reg.generation
      ∧ CalmOn (asking .idle) ∧ (asking .idle).reg.state ≠ .current := by decide

theorem witness_DivergenceJudged :
    CalmOn (marked .disagrees .unmarked) ∧ (marked .disagrees .unmarked).reg.state = .current
      ∧ CalmOn (marked .disagrees .agrees)
      ∧ (let judged := fun (s : State) (k : Mark) => ((List.range 32).filter (fun m => m != s.strap
            && (s.roster.entry m).present && (s.roster.entry m).seen && (s.roster.entry m).reg == some .current
            && (s.roster.entry m).mark == k)).length
         judged (marked .disagrees .unmarked) .agrees < judged (marked .disagrees .unmarked) .disagrees
          ∧ judged (marked .disagrees .agrees) .disagrees ≤ judged (marked .disagrees .agrees) .agrees) := by decide

/-- The clauses of the skew monitor meet at a step index 2 away; those of the watch at station 31 and 32. -/
theorem witness_WatchesPostHalts :
    CalmOn flyingRun ∧ flyingRun.reg.state = .current ∧ (4 : Nat) ∈ flyingRun.members ∧ (4 : Nat) ≠ flyingRun.strap
      ∧ flyingRun.axis.state = .flying ∧ flyingRun.roster.skewReported = false ∧ flyingRun.engine.stepIndex = 31
      ∧ flyingRun.conf.skewLimit < 34 - flyingRun.engine.stepIndex
      ∧ 33 - flyingRun.engine.stepIndex ≤ flyingRun.conf.skewLimit
      ∧ flyingRun.engine.stepIndex - 29 ≤ flyingRun.conf.skewLimit
      ∧ (31 : Nat) < 32 ∧ (shown .parked 41 true).showStop = true ∧ flyingRun.cue.showStop = false
      ∧ (∀ o ∈ flyingRun.line.queue, o.post ≠ .halt 255 5) ∧ (32 : Nat) ≤ 32 := by decide

/-- The watches of a station that has restarted and of one that flies while STALE. -/
theorem witness_WatchesPostHalts_notCurrent :
    (CalmOn (asking .idle) ∧ (asking .idle).reg.state = .syncing ∧ (asking .idle).cue.showStop = false
      ∧ (asking .idle).line.queue = [])
    ∧ (let s := { flyingRun with reg := { flyingRun.reg with state := .stale } }
       CalmOn s ∧ s.axis.state = .flying ∧ s.roster.skewReported = false ∧ s.reg.state = .stale) := by decide

theorem witness_LapseEmptiesEntry :
    let s := { armed with roster := (marked .agrees .unmarked).roster }
    CalmOn s ∧ SlotsFit s ∧ (s.roster.entry 3).lapse = none ∧ (s.roster.entry 4).lapse = some 120
      ∧ (s.roster.entry 5).lapse = some 120 ∧ 4 ∈ s.members ∧ 5 ∉ s.members ∧ (4 : Nat) ≠ s.strap := by decide

/-- The armed station with a full queue whose only post above class 0 is the one given, its third attempt failing and its answer to station 4 running. -/
def lapsing (p : Post) : State :=
  fullQueue { armed with
    roster := (marked .agrees .unmarked).roster
    sync := { armed.sync with phase := .posting, failed := 2, waitList := [4], answer := some ⟨none⟩ } } p .plain

/-- A post of each kind stands where the HALT of a lapse displaces it; and a queue of HALTs displaces none. -/
theorem witness_LapseEmptiesEntry_fullQueue :
    (∀ p ∈ ([.notice ⟨1, 2, 3, none, 4⟩, .claim ⟨7, 2⟩ boxB, .release ⟨7, 2⟩, .done 7 6 1, .cut 7 6 1 0 0,
          .ready 7 12 6 [12, 4], .sync 12 4, .tableEntry 4 0 ⟨7, 2⟩ boxB] : List Post),
      let s := lapsing p
      s.power = .running ∧ s.line.state = .on ∧ s.line.reports = [] ∧ QueuesBounded s ∧ s.line.queue.length = 8
        ∧ 4 ∈ s.members ∧ (4 : Nat) ≠ s.strap ∧ (s.roster.entry 4).lapse = some 120 ∧ s.axis.state = .armed
        ∧ displacedBy s.line 0 ⟨p, .plain, 0⟩ ∧ s.cue.current = some cueB ∧ cueB.phase = .armed
        ∧ s.sync.phase = .posting ∧ s.sync.failed + 1 = 3 ∧ s.sync.answer.isSome = true ∧ s.sync.waitList = [4])
    ∧ (∀ o ∈ (lapsing (.halt 7 9)).line.queue, Post.cls o.post = 0) := by
  unfold displacedBy
  decide

/-! #### Faults, lock and store -/

theorem witness_AckClearsKinds :
    Receives faultedStation ∧ faultedStation.axis.state = .faulted
      ∧ FaultSet.isEmpty faultedStation.axis.faults = false ∧ faultedStation.strap = 12 := by decide

/-- A LOCK at rest, with the lock kept, elsewhere than PARKED, and with the aloft record's write pending. -/
theorem witness_LockActionDecided :
    lockAction 0 = .bad ∧ lockAction 3 = .bad ∧ lockAction 1 = .lock ∧ base.strap = 12
      ∧ (CalmOn base ∧ base.lock.copy = none ∧ base.axis.state = .parked ∧ base.store.copy = none
        ∧ ¬aloftWritePending base.store)
      ∧ (CalmOn lockedStation ∧ lockedStation.lock.copy.isSome = true)
      ∧ (CalmOn armed ∧ armed.lock.copy = none ∧ armed.axis.state ≠ .parked)
      ∧ (let s := { base with store := { base.store with aloft := ⟨.set 7 0x0702 0 0 0, .clear⟩ } }
         CalmOn s ∧ s.axis.state = .parked ∧ aloftWritePending s.store) := by
  refine ⟨by decide, by decide, by decide, by decide, ⟨by decide, by decide, by decide, by decide, ?_⟩,
    by decide, by decide, by decide, by decide, Or.inl (by decide)⟩
  rintro (h | ⟨v, h⟩)
  · exact h rfl
  · cases h

theorem witness_UnlockActionsDecided :
    lockAction 2 = .unlock ∧ lockAction 4 = .master ∧ CalmOn lockedStation
      ∧ (∀ c, lockedStation.lock.copy = some c → (740 : Word) = c) ∧ (1205 : Word) = lockedStation.conf.masterCode
      ∧ lockedStation.lock.copy.isSome = true ∧ ¬lockWritePending lockedStation.store ∧ (740 : Word) ≠ 1205
      ∧ lockedStation.axis.state = .locked ∧ CalmOn base ∧ base.lock.copy = none
      ∧ (let s := { lockedStation with store := { lockedStation.store with lockRec := ⟨none, some 740⟩ } }
         CalmOn s ∧ s.lock.copy.isSome = true ∧ lockWritePending s.store) := by
  refine ⟨by decide, by decide, by decide, ?_, by decide, by decide, ?_, by decide, by decide, by decide, by decide,
    by decide, by decide, Or.inl (by decide)⟩
  · intro c h
    cases h
    rfl
  · rintro (h | ⟨v, h⟩)
    · exact h rfl
    · cases h

/-- The station with a pending swap of station 32. -/
def swapping : State := { base with store := { base.store with swapPending := some 32 } }

theorem witness_SwapAndVerifyAreDecided :
    CalmOn base ∧ base.strap = 12 ∧ base.store.pinForced = false ∧ base.store.swapPending = none
      ∧ base.store.copy = none ∧ base.store.verified = false ∧ base.store.verify = none
      ∧ base.store.commit = none ∧ base.store.buffer = [] ∧ base.store.inFlight = none
      ∧ CalmOn swapping ∧ swapping.store.swapPending.isSome = true
      ∧ (let s := { base with store := { base.store with pinForced := true, verify := some [] } }
         CalmOn s ∧ s.store.pinForced = true ∧ s.store.verify.isSome = true)
      ∧ (let s := { base with store := { base.store with verified := true, buffer := [(4096, 5)] } }
         CalmOn s ∧ s.store.verified = true ∧ s.store.buffer ≠ [])
      ∧ (let s := { base with store := { base.store with inFlight := some (.aloftWrite .clear) } }
         CalmOn s ∧ s.store.verify = none ∧ s.store.copy = none ∧ s.store.inFlight.isSome = true) := by decide

theorem witness_LoadIsTurnedAwayOrAbandonsVerify :
    (let s := { base with store := { base.store with commit := some [(4096, 5)] } }
     CalmOn s ∧ s.store.commit.isSome = true ∧ ([5] : List Word).length = 1)
    ∧ (let s := { base with store := { base.store with
          verify := some [12], inFlight := some (.verifySlice 1 false), waiting := [.verifySlice 2] } }
       CalmOn s ∧ s.store.copy = none ∧ s.store.commit = none ∧ s.store.verify = some [12] ∧ s.store.buffer = []) := by
  decide

/-- DATA of 1 and of 6 words, and buffers that one more word brings just below a commit and to it. -/
theorem witness_LoadIsTaken :
    CalmOn base ∧ base.store.copy = none ∧ base.store.commit = none ∧ base.store.verify = none
      ∧ areaOfCode 2 = some .profile ∧ ([1, 2, 3, 4, 5, 6] : List Word).length = 6
      ∧ (∀ n ∈ [14, 15],
        let s := { base with store := { base.store with
            area := .profile, index := n, buffer := (List.range n).map (fun j => (4531 + j, 1)) } }
        CalmOn s ∧ s.store.buffer.length < 16) := by decide

theorem witness_WritesComplete :
    let op := fun o => { base with store := { base.store with inFlight := some o } }
    (∀ o ∈ [MemOp.aloftWrite (.set 7 0x0702 0 0 0), .aloftWrite .clear, .lockWrite none, .lockWrite (some 740),
        .flagWrite 1, .flagWrite 0, .commit [(4096, 5)]],
      Calm (op o) ∧ MemoryCanonical (op o) ∧ (op o).store.verify = none ∧ (op o).store.inFlight = some o)
    ∧ (∀ buffer ∈ [[], [(4097, 6)]],
      let s := { base with store := { base.store with
          inFlight := some (.commit [(4096, 5)]), verify := some [], buffer := buffer } }
      Calm s ∧ MemoryCanonical s ∧ s.store.verify = some [] ∧ s.store.buffer = buffer) := by decide

theorem witness_SlicesComplete :
    (∀ i ∈ [0, 37, 38],
      let s := { base with store := { base.store with copy := some [12], inFlight := some (.copySlice i) } }
      CalmOn s ∧ s.store.copy = some [12] ∧ s.store.inFlight = some (.copySlice i))
    ∧ (∀ i ∈ [0, 37, 38], ∀ d ∈ [true, false],
      let s := { base with store := { base.store with verify := some [12], inFlight := some (.verifySlice i d) } }
      CalmOn s ∧ s.store.verify = some [12] ∧ s.store.inFlight = some (.verifySlice i d)) := by decide

/-! #### Steps due at once, and the line -/

theorem witness_DueStepsAct :
    (let s := { marked .agrees .unmarked with reg := { base.reg with state := .stale } }
     CalmOn s ∧ AxisState.atRest s.axis.state = true ∧ s.reg.state = .stale ∧ s.sync.beenCurrent = true
      ∧ (4 : Nat) < 32 ∧ (4 : Nat) ≠ s.strap ∧ (s.roster.entry 4).present = true ∧ (s.roster.entry 4).seen = true
      ∧ (s.roster.entry 4).reg = some .current)
    ∧ (let s := { base with
          axis := { base.axis with state := .holding }
          cue := { base.cue with held := some ⟨⟨7, 2⟩, boxB⟩, reclaim := .due } }
       CalmOn s ∧ AxisState.atRest s.axis.state = true ∧ s.isLead = true ∧ s.axis.state ≠ .parked
        ∧ s.reg.state = .current ∧ hasKey s.reg.table ⟨7, 2⟩ = false ∧ s.cue.reclaim = .due)
    ∧ (CalmOn swapping ∧ AxisState.atRest swapping.axis.state = true ∧ swapping.store.swapPending = some 32
      ∧ swapping.cue.queue = [] ∧ swapping.store.verify = none ∧ swapping.store.copy = none
      ∧ swapping.store.verified = false)
    ∧ (let s := { swapping with store := { swapping.store with verified := true } }
       CalmOn s ∧ s.store.verified = true) := by decide

theorem witness_LineComesOn :
    (let s := { base with
        line := { base.line with state := .lineOff, offTimer := some 250 }
        cue := { base.cue with owedRelease := some ⟨7, 2⟩, owed := [⟨.cut 7 6 1 0 0, .plain⟩, ⟨.done 7 6 1, .plain⟩] } }
     s.power = .running ∧ s.line.reports = [] ∧ s.line.state = .lineOff ∧ s.line.offTimer = some 250
      ∧ s.line.queue = [] ∧ s.cue.owed.length ≤ 7)
    ∧ (∀ seen ∈ [none, some OnLine.other],
       let s := { base with line := { base.line with
          state := .joining, watch := .awaitIdle, silence := some 100, onLine := seen } }
       Calm s ∧ s.line.onLine = seen ∧ s.line.state = .joining ∧ s.line.silence = some 100
        ∧ s.line.watch = .awaitIdle ∧ s.line.watch ≠ .notWatching)
    ∧ (let s := { base with line := { base.line with state := .joining, onLine := some .other } }
       Calm s ∧ s.line.onLine = some .other ∧ s.line.watch = .following
        ∧ (Instr.clearStop 4).delivered = some (4, .clearStop))
    ∧ Calm { base with line := { base.line with state := .lineOff } } := by decide

/-! #### Invariants and the wire -/

/-- The flying station with the HALT of another station at the front of its queue meets every law, and steps. -/
def haltedNext : State :=
  { flyingRun with
    store := { flyingRun.store with mem := [(64, 1)], aloft := ⟨.set 7 0x0702 0x141E 0x141E 0x0414, .clear⟩ }
    pending := [.halt 4 7 0] }

theorem witness_StepKeeps_memory_and_bounds :
    MemoryCanonical haltedNext ∧ QueuesBounded haltedNext ∧ TableBounded haltedNext ∧ SlotsFit haltedNext
      ∧ nextIs (step haltedNext) (fun t => t.axis.state == .stopping) = true := by decide

theorem witness_StepKeeps_axis_and_record_laws : AxisLaws haltedNext ∧ RegisterLaws haltedNext ∧ RecordLaws haltedNext := by
  refine ⟨⟨?_, ?_, ?_, ?_, ?_, ?_, ?_, ?_, ?_⟩,
    ⟨fun _ => Or.inl rfl, fun _ => ⟨_, rfl, rfl⟩, by decide, by decide, by decide⟩,
    ⟨⟨?_, ?_, ?_, ?_, ?_, ?_, ?_⟩, ?_, ?_, ?_, ?_, ?_, ?_, ?_, ?_, ?_⟩⟩
  · simp [haltedNext, flyingRun, armed, currentIs, cueB]
  · simp [haltedNext, flyingRun, armed, currentIs, cueB]
  iterate 11 decide
  · rintro v ⟨⟩
  · rintro (h | h | h) <;> revert h <;> decide
  · rintro (⟨i, ⟨⟩⟩ | h)
    revert h
    decide
  iterate 5 decide
  · rintro c ⟨⟩
  · rintro v ⟨⟩
  all_goals decide

theorem witness_PostsDecodeAsEncoded :
    Post.wf (.ready 7 65535 47 [12, 4, 0, 31]) = true ∧ Post.wf (.loadData 47 [1, 2, 3, 4, 5, 6]) = true
      ∧ Post.wf (.presence (shown .flying 42 true)) = true ∧ Post.wf (.cue 15 65535 47 255 255 255 255) = true := by
  decide

end Sys2Proof.Tests
end

section
/-! Proofs of the airspace register's evaluation of a CLAIM (01 R8 to R12, R16): which test decides a verdict, and what each verdict leaves of table and generation. -/

namespace Sys2Proof.Machine

/-! ### Well-formedness (R1, R4, R8) -/

theorem Key.wf_eq_false_iff (k : Key) : Key.wf k = false ↔ k.flyer < 1 ∨ 15 < k.flyer ∨ 7 < k.tag := by
  simp only [Key.wf, Bool.and_eq_false_iff, decide_eq_false_iff_not, not_le]
  tauto

theorem Box.wf_eq_false_iff (b : Box) :
    Box.wf b = false ↔ b.x1 < b.x0 ∨ 63 < b.x1 ∨ b.y1 < b.y0 ∨ 63 < b.y1 ∨ b.z1 < b.z0 ∨ 31 < b.z1 := by
  simp only [Box.wf, Bool.and_eq_false_iff, decide_eq_false_iff_not, not_le]
  tauto

/-! ### The verdict by the path the key test chooses (R8) -/

theorem claimVerdict_malformed {k : Key} {b : Box} (zones : List Zone) (table : List Entry)
    (h : Key.wf k = false ∨ Box.wf b = false) : claimVerdict zones table k b = .badBox := by
  rcases h with hk | hb
  · simp [claimVerdict, hk]
  · simp [claimVerdict, hb]

theorem claimVerdict_present {table : List Entry} {k : Key} {b : Box} {e : Entry} (zones : List Zone)
    (hk : Key.wf k = true) (hb : Box.wf b = true) (he : findEntry table k = some e) :
    claimVerdict zones table k b = resizeVerdict zones table e k b := by
  simp [claimVerdict, hk, hb, he]

theorem claimVerdict_absent {table : List Entry} {k : Key} {b : Box} (zones : List Zone)
    (hk : Key.wf k = true) (hb : Box.wf b = true) (ha : findEntry table k = none) :
    claimVerdict zones table k b = newVerdict zones table k b := by
  simp [claimVerdict, hk, hb, ha]

/-! ### The limits of a new claim (R10) -/

theorem newVerdict_full {table : List Entry} (zones : List Zone) (k : Key) (b : Box) (h : 24 ≤ table.length) :
    newVerdict zones table k b = .full :=
  if_pos h

theorem newVerdict_limit {table : List Entry} {k : Key} (zones : List Zone) (b : Box)
    (hroom : table.length < 24) (h : 4 ≤ countOf table k.flyer) : newVerdict zones table k b = .limit :=
  (if_neg (Nat.not_le.mpr hroom)).trans (if_pos h)

theorem newVerdict_withinLimits {table : List Entry} {k : Key} (zones : List Zone) (b : Box)
    (hroom : table.length < 24) (hfew : countOf table k.flyer < 4) :
    newVerdict zones table k b
      = if zoneConflict zones k.flyer b then .zone
        else if entryConflict table k.flyer b then .overlap
        else .appended :=
  (if_neg (Nat.not_le.mpr hroom)).trans (if_neg (Nat.not_le.mpr hfew))

theorem newVerdict_ne_resized (zones : List Zone) (table : List Entry) (k : Key) (b : Box) :
    newVerdict zones table k b ≠ .resized := by
  unfold newVerdict
  split_ifs <;> exact Verdict.noConfusion

/-- Only a claim whose key stands in the table can be RESIZED (R9, R10). -/
theorem findEntry_isSome_of_resized {zones : List Zone} {table : List Entry} {k : Key} {b : Box}
    (h : claimVerdict zones table k b = .resized) : (findEntry table k).isSome = true := by
  by_cases hwf : Key.wf k = true ∧ Box.wf b = true
  · obtain ⟨hk, hb⟩ := hwf
    cases hf : findEntry table k with
    | some e => rfl
    | none =>
      rw [claimVerdict_absent zones hk hb hf] at h
      exact absurd h (newVerdict_ne_resized zones table k b)
  · have hbad : Key.wf k = false ∨ Box.wf b = false := by
      simpa only [not_and_or, Bool.not_eq_true] using hwf
    rw [claimVerdict_malformed zones table hbad] at h
    exact Verdict.noConfusion h

/-! ### The table after a resize (R5, R9) -/

theorem findEntry_cons_same {e : Entry} {k : Key} (t : List Entry) (h : e.key = k) :
    findEntry (e :: t) k = some e :=
  List.find?_cons_of_pos (by simp [h])

theorem findEntry_cons_other {e : Entry} {k : Key} (t : List Entry) (h : e.key ≠ k) :
    findEntry (e :: t) k = findEntry t k :=
  List.find?_cons_of_neg (by simp [h])

theorem replaceBox_cons_same {e : Entry} {k : Key} (t : List Entry) (b : Box) (h : e.key = k) :
    replaceBox (e :: t) k b = ⟨k, b⟩ :: t :=
  if_pos h

theorem replaceBox_cons_other {e : Entry} {k : Key} (t : List Entry) (b : Box) (h : e.key ≠ k) :
    replaceBox (e :: t) k b = e :: replaceBox t k b :=
  if_neg h

theorem replaceBox_keys (table : List Entry) (k : Key) (b : Box) :
    (replaceBox table k b).map (·.key) = table.map (·.key) := by
  induction table with
  | nil => rfl
  | cons e t ih =>
    by_cases h : e.key = k
    · simp [replaceBox_cons_same t b h, h]
    · simp [replaceBox_cons_other t b h, ih]

theorem replaceBox_length (table : List Entry) (k : Key) (b : Box) :
    (replaceBox table k b).length = table.length := by
  simpa using congrArg List.length (replaceBox_keys table k b)

theorem findEntry_replaceBox {table : List Entry} {k : Key} (b : Box)
    (hin : (findEntry table k).isSome = true) : findEntry (replaceBox table k b) k = some ⟨k, b⟩ := by
  induction table with
  | nil => exact absurd hin (by simp [findEntry])
  | cons e t ih =>
    by_cases h : e.key = k
    · rw [replaceBox_cons_same t b h, findEntry_cons_same t rfl]
    · rw [findEntry_cons_other t h] at hin
      rw [replaceBox_cons_other t b h, findEntry_cons_other _ h, ih hin]

/-! ### What a verdict leaves of the register (R12, R16) -/

theorem AirRegister.claim_appended {r : AirRegister} {k : Key} {b : Box}
    (h : claimVerdict r.zones r.table k b = .appended) :
    AirRegister.claim r k b = { r with table := r.table ++ [⟨k, b⟩], generation := r.generation + 1 } := by
  simp [AirRegister.claim, h, tableAfter, Verdict.changes]

theorem AirRegister.claim_resized {r : AirRegister} {k : Key} {b : Box}
    (h : claimVerdict r.zones r.table k b = .resized) :
    AirRegister.claim r k b = { r with table := replaceBox r.table k b, generation := r.generation + 1 } := by
  simp [AirRegister.claim, h, tableAfter, Verdict.changes]

/-- UNCHANGED and the five refusals leave the register as it was. -/
theorem AirRegister.claim_unchanged {r : AirRegister} {k : Key} {b : Box}
    (happ : claimVerdict r.zones r.table k b ≠ .appended)
    (hres : claimVerdict r.zones r.table k b ≠ .resized) : AirRegister.claim r k b = r := by
  unfold AirRegister.claim
  cases hv : claimVerdict r.zones r.table k b with
  | appended => exact absurd hv happ
  | resized => exact absurd hv hres
  | unchanged | badBox | full | limit | zone | overlap => rfl

theorem AirRegister.claim_refused {r : AirRegister} {k : Key} {b : Box}
    (h : (claimVerdict r.zones r.table k b).refused = true) : AirRegister.claim r k b = r := by
  apply AirRegister.claim_unchanged <;> intro hv <;> simp [hv, Verdict.refused] at h

/-! ### The statements -/

/-- Settles O21: the key test chooses the path of a new claim, and the limits are tested there before the conflicts. -/
theorem newClaimLimits : Obligations.NewClaimLimits := by
  intro r k b habsent hk hb
  rw [claimVerdict_absent r.zones hk hb habsent]
  refine ⟨newVerdict_full r.zones k b, newVerdict_limit r.zones b, ?refusal, newVerdict_withinLimits r.zones b⟩
  case refusal =>
    intro hv
    apply AirRegister.claim_refused
    rw [claimVerdict_absent r.zones hk hb habsent]
    rcases hv with hfull | hlimit
    · rw [hfull]; rfl
    · rw [hlimit]; rfl

/-- Settles O22: one lemma for each path of the evaluation and one for each effect of a verdict. -/
theorem claimVerdictEffects : Obligations.ClaimVerdictEffects := by
  intro r k b
  refine ⟨Key.wf_eq_false_iff k, Box.wf_eq_false_iff b, ?malformed,
    fun e hk hb he => claimVerdict_present r.zones hk hb he,
    fun hk hb ha => claimVerdict_absent r.zones hk hb ha, ?appended, ?resized, AirRegister.claim_unchanged⟩
  case malformed =>
    intro hbad
    have hv := claimVerdict_malformed r.zones r.table hbad
    exact ⟨hv, AirRegister.claim_refused (by rw [hv]; rfl)⟩
  case appended =>
    intro hv
    rw [AirRegister.claim_appended hv]
    exact ⟨rfl, rfl⟩
  case resized =>
    intro hv
    rw [AirRegister.claim_resized hv]
    exact ⟨replaceBox_length r.table k b, replaceBox_keys r.table k b,
      findEntry_replaceBox b (findEntry_isSome_of_resized hv), rfl⟩

end Sys2Proof.Machine
end

section
/-! Normal forms of the operations of the cue unit and the axis: each as updates of the blocks it changes, so that what it leaves unchanged is read off (03 R59, R65 to R73; 05 R99 to R118). -/

namespace Sys2Proof.Machine

/-! ### Changes of the axis state (05 R118) -/

/-- The line interface where the axis goes from state `a` to `b`: a change asks for a PRESENCE. -/
def lineEntering (a b : AxisState) (l : Line) : Line := if a = b then l else Line.requestPresence l

/-- The store with the aloft record aimed at `v` (09 R176). -/
def Store.aimed (st : Store) (v : AloftRecord) : Store := { st with aloft := ⟨st.aloft.stored, v⟩ }

/-- The store where the axis goes from state `a` to `b`: the entry into PARKED aims the aloft record clear. -/
def storeEntering (a b : AxisState) (st : Store) : Store :=
  if b = .parked ∧ a ≠ .parked then st.aimed .clear else st

theorem enterAxis_eq (s : State) (a : AxisState) :
    s.enterAxis a
      = ((s.withAxis { s.axis with state := a }).withLine (lineEntering s.axis.state a s.line)).withStore
          (storeEntering s.axis.state a s.store) := by
  unfold State.enterAxis lineEntering storeEntering
  by_cases h : s.axis.state = a
  · subst h
    simp only [if_true]
    rw [if_neg (by tauto)]
    rfl
  · by_cases ha : a = .parked
    · subst ha
      simp only [h, if_false, if_true, ne_eq, not_false_eq_true, and_self]
      rfl
    · simp only [h, ha, if_false, false_and]
      rfl

@[simp] theorem enterAxis_axis (s : State) (a : AxisState) : (s.enterAxis a).axis = { s.axis with state := a } := by
  rw [enterAxis_eq]; rfl
@[simp] theorem enterAxis_cue (s : State) (a : AxisState) : (s.enterAxis a).cue = s.cue := by
  rw [enterAxis_eq]; rfl
@[simp] theorem enterAxis_engine (s : State) (a : AxisState) : (s.enterAxis a).engine = s.engine := by
  rw [enterAxis_eq]; rfl
@[simp] theorem enterAxis_line (s : State) (a : AxisState) :
    (s.enterAxis a).line = lineEntering s.axis.state a s.line := by
  rw [enterAxis_eq]; rfl
@[simp] theorem enterAxis_store (s : State) (a : AxisState) :
    (s.enterAxis a).store = storeEntering s.axis.state a s.store := by
  rw [enterAxis_eq]; rfl

theorem enterAxis_same (s : State) : s.enterAxis s.axis.state = s := if_pos rfl

theorem storeEntering_of_ne (a : AxisState) {b : AxisState} (st : Store) (h : b ≠ .parked) :
    storeEntering a b st = st :=
  if_neg (fun hh => h hh.1)

@[simp] theorem storeEntering_same (a : AxisState) (st : Store) : storeEntering a a st = st :=
  if_neg (fun hh => hh.2 hh.1)

theorem storeEntering_parked {a : AxisState} (st : Store) (h : a ≠ .parked) :
    storeEntering a .parked st = st.aimed .clear :=
  if_pos ⟨rfl, h⟩

@[simp] theorem lineEntering_same (a : AxisState) (l : Line) : lineEntering a a l = l := if_pos rfl

@[simp] theorem lineEntering_state (a b : AxisState) (l : Line) : (lineEntering a b l).state = l.state := by
  unfold lineEntering; split <;> simp

@[simp] theorem lineEntering_queue (a b : AxisState) (l : Line) : (lineEntering a b l).queue = l.queue := by
  unfold lineEntering; split <;> simp

@[simp] theorem lineEntering_reports (a b : AxisState) (l : Line) : (lineEntering a b l).reports = l.reports := by
  unfold lineEntering; split <;> simp

/-! ### The drop (03 R65) -/

/-- The state the axis stands in after a drop: its origin out of ARMED, and as it was otherwise (05 R99). -/
def originState (x : Axis) : AxisState := if x.state = .armed then x.origin.getD .parked else x.state

theorem returnToOrigin_eq (s : State) :
    returnToOrigin s = (s.withAxis { s.axis with origin := none }).enterAxis (originState s.axis) := by
  unfold returnToOrigin originState
  by_cases h : s.axis.state = .armed
  · simp [h]
  · simp only [h, if_false]
    exact (enterAxis_same (s.withAxis { s.axis with origin := none })).symm

theorem releaseUnused_test (s : State) (c : CurrentCue) :
    (s.isLead && s.cue.heldKey != some c.runKey && hasKey s.reg.table c.runKey) = true ↔ givesBack s c := by
  simp [givesBack, CueUnit.heldKey, and_assoc]

/-- The owed release after a drop: the RELEASE that LINE-OFF discards (03 R69). -/
def releaseOwed (c : CurrentCue) (s : State) : Option Key :=
  if givesBack s c ∧ s.line.state = .lineOff then some c.runKey else s.cue.owedRelease

/-- The line interface with the RELEASE of space the set never used (03 R65). -/
def lineGivingBack (c : CurrentCue) (s : State) (l : Line) : Line :=
  if givesBack s c then Line.offer l (.release c.runKey) .plain else l

theorem releaseUnused_eq (c : CurrentCue) (s : State) :
    releaseUnused c s
      = (s.withLine (lineGivingBack c s s.line)).withCue { s.cue with owedRelease := releaseOwed c s } := by
  unfold releaseUnused lineGivingBack releaseOwed
  by_cases hg : givesBack s c
  · rw [if_pos ((releaseUnused_test s c).mpr hg), if_pos hg]
    by_cases hl : s.line.state = .lineOff
    · rw [if_pos hl, if_pos ⟨hg, hl⟩]; rfl
    · rw [if_neg hl, if_neg (fun h => hl h.2)]; rfl
  · rw [if_neg ((releaseUnused_test s c).not.mpr hg), if_neg hg, if_neg (fun h => hg h.1)]
    rfl

/-- The line interface after the drop of `c`: the PRESENCE of the axis change, the cue's posts withdrawn, CUT, and the RELEASE of unused space. -/
def lineDropping (c : CurrentCue) (r : CutReason) (w : Bool) (s : State) : Line :=
  let l := Line.withdraw (lineEntering s.axis.state (originState s.axis) s.line) (postOfCue c (r == .space))
  lineGivingBack c s (if w then Line.offer l (.cut s.flyer c.segment c.reps 0 r.code) .plain else l)

/-- The cue unit after a drop. -/
def CueUnit.dropped (u : CueUnit) (owed : Option Key) : CueUnit :=
  { u with current := none, readyWait := none, spaceWait := none, owedRelease := owed }

theorem dropArmed_eq (c : CurrentCue) (r : CutReason) (w : Bool) (s : State) :
    dropArmed c r w s
      = (((s.withAxis { s.axis with origin := none, state := originState s.axis }).withStore
            (storeEntering s.axis.state (originState s.axis) s.store)).withLine (lineDropping c r w s)).withCue
          (s.cue.dropped (releaseOwed c s)) := by
  unfold dropArmed
  simp only [returnToOrigin_eq, enterAxis_eq, releaseUnused_eq]
  cases w <;> cases s <;>
    simp [lineDropping, lineGivingBack, releaseOwed, CueUnit.dropped, State.withCue, State.withAxis, State.withLine,
      State.withStore, State.withdraw, State.post, State.isLead, State.members, State.conf, givesBack, State.flyer]

theorem dropCue_armed (r : CutReason) (w : Bool) {s : State} {c : CurrentCue} (hc : s.cue.current = some c)
    (hp : c.phase = .armed) : dropCue r w s = dropArmed c r w s := by
  simp [dropCue, hc, hp]

/-- A drop without an armed cue does nothing (03 R64). -/
theorem dropCue_of_not_armed (r : CutReason) (w : Bool) {s : State}
    (h : ∀ c, s.cue.current = some c → c.phase = .running) : dropCue r w s = s := by
  unfold dropCue
  split
  · rename_i c hc
    simp [h c hc]
  · rfl

theorem dropMatching_armed (r : CutReason) {s : State} {c : CurrentCue} (hc : s.cue.current = some c)
    (hp : c.phase = .armed) : dropMatching c.showNo c.segment r s = dropArmed c r true s := by
  simp [dropMatching, hc, dropCue_armed r true hc hp]

theorem dropMatching_of_not (sh sg : Nat) (r : CutReason) {s : State}
    (h : ∀ c, s.cue.current = some c → c.phase = .running ∨ c.showNo ≠ sh ∨ c.segment ≠ sg) :
    dropMatching sh sg r s = s := by
  unfold dropMatching
  split
  · rename_i c hc
    split
    · rename_i hm
      refine dropCue_of_not_armed r true (fun d hd => ?_)
      rw [hc, Option.some.injEq] at hd
      subst hd
      rcases h c hc with hr | hr | hr
      · exact hr
      · exact absurd hm.1 hr
      · exact absurd hm.2 hr
    · rfl
  · rfl

/-! ### The cut (03 R72) -/

/-- The cue unit after a cut: the run's claim is held. -/
def CueUnit.cutOff (u : CueUnit) (c : CurrentCue) : CueUnit :=
  { u with held := some ⟨c.runKey, c.box⟩, current := none }

/-- The axis as a run that is not ended by a fault leaves it (05 R102). -/
def Axis.stopping (x : Axis) (e : Engine) : Axis :=
  { x with demand := e.demand, ramp := some e.planned, state := .stopping }

/-- The line interface after a cut from axis state `a` to `b`. -/
def lineCutting (c : CurrentCue) (r : CutReason) (s : State) (b : AxisState) : Line :=
  Line.offer (lineEntering s.axis.state b s.line)
    (.cut s.flyer c.segment s.engine.remaining s.engine.stepIndex r.code) .plain

theorem cutRunning_flying (c : CurrentCue) {r : CutReason} {s : State} (hr : r ≠ .fault)
    (hf : s.axis.state = .flying) :
    cutRunning c r s
      = (((s.withEngine (Engine.toIdle s.engine)).withAxis (s.axis.stopping s.engine)).withLine
          (lineCutting c r s .stopping)).withCue (s.cue.cutOff c) := by
  unfold cutRunning toStopping
  simp only [hr, if_false, State.withEngine_axis, hf, if_true, enterAxis_eq]
  cases s
  simp at hf
  simp [lineCutting, CueUnit.cutOff, Axis.stopping, State.withCue, State.withAxis, State.withLine, State.withStore,
    State.withEngine, State.post, storeEntering, State.flyer, State.conf, hf]

theorem cutRunning_other (c : CurrentCue) {r : CutReason} {s : State} (h : r = .fault ∨ s.axis.state ≠ .flying) :
    cutRunning c r s
      = ((s.withEngine (Engine.toIdle s.engine)).withLine (lineCutting c r s s.axis.state)).withCue
          (s.cue.cutOff c) := by
  unfold cutRunning toStopping
  have hs : (if r = .fault then s.withEngine (Engine.toIdle s.engine)
      else if (s.withEngine (Engine.toIdle s.engine)).axis.state = .flying then
        ((s.withEngine (Engine.toIdle s.engine)).withAxis
          { (s.withEngine (Engine.toIdle s.engine)).axis with
            demand := s.engine.demand, ramp := some s.engine.planned }).enterAxis .stopping
      else s.withEngine (Engine.toIdle s.engine)) = s.withEngine (Engine.toIdle s.engine) := by
    rcases h with h | h
    · simp [h]
    · simp [h]
  simp only [hs, lineCutting, lineEntering_same]
  rfl

theorem cutRun_running (r : CutReason) {s : State} {c : CurrentCue} (hc : s.cue.current = some c)
    (hp : c.phase = .running) : cutRun r s = cutRunning c r s := by
  simp [cutRun, hc, hp]

theorem cutRun_of_not_running (r : CutReason) {s : State}
    (h : ∀ c, s.cue.current = some c → c.phase = .armed) : cutRun r s = s := by
  unfold cutRun
  split
  · rename_i c hc
    simp [h c hc]
  · rfl

/-! ### The flush (03 R67) -/

/-- The line interface after a flush: NOTICE FLUSHED where an entry was removed. -/
def lineFlushing (s : State) : Line :=
  if s.cue.queue.length = 0 then s.line
  else Line.offer s.line
    (.notice ⟨NoticeCode.flushed.code, s.strap, s.flyer, none, s.cue.queue.length⟩) .plain

/-- The cue unit after a flush. -/
def CueUnit.flushed (u : CueUnit) : CueUnit := { u with queue := [], chainDelay := none }

theorem flush_eq (s : State) : flush s = (s.withCue s.cue.flushed).withLine (lineFlushing s) := by
  unfold flush lineFlushing
  simp only
  split <;> rfl

/-! ### The start of a run (03 R59) -/

/-- The cue unit after a start. -/
def CueUnit.started (u : CueUnit) (c : CurrentCue) : CueUnit :=
  { u with
    current := some { c with phase := .running }, slots := u.slots.map (fun _ => none)
    readyWait := none, spaceWait := none }

/-- The axis after a start. -/
def Axis.launched (x : Axis) : Axis :=
  { Axis.command { x with origin := none, demand := 0 } .released with state := .flying }

/-- The engine after a start. -/
def engineStarting (c : CurrentCue) (s : State) : Engine :=
  let g := segmentOf s.store.working.words c.segment
  Engine.begin s.store.working.words (playOf g (g.mode.getD .once)) c.reps s.axis.inputs.haul s.engine

/-- The line interface after a start: the waits' posts withdrawn, the PRESENCE of the axis change, and the lead's RELEASE of another held key. -/
def lineStarting (c : CurrentCue) (s : State) : Line :=
  let l := lineEntering s.axis.state .flying (Line.withdraw s.line (postOfWait c))
  match s.cue.held with
  | some h => if s.isLead && h.key != c.runKey then Line.offer l (.release h.key) .plain else l
  | none => l

theorem Axis.command_state (x : Axis) (b : Brake) : (Axis.command x b).state = x.state := by
  unfold Axis.command; split <;> rfl

theorem Axis.command_inputs (x : Axis) (b : Brake) : (Axis.command x b).inputs = x.inputs := by
  unfold Axis.command; split <;> rfl

theorem Axis.command_brake (x : Axis) (b : Brake) : (Axis.command x b).brake = b := by
  unfold Axis.command; split
  · assumption
  · rfl

theorem Axis.command_origin (x : Axis) (b : Brake) : (Axis.command x b).origin = x.origin := by
  unfold Axis.command; split <;> rfl

theorem Axis.command_faults (x : Axis) (b : Brake) : (Axis.command x b).faults = x.faults := by
  unfold Axis.command; split <;> rfl

theorem Axis.command_ramp (x : Axis) (b : Brake) : (Axis.command x b).ramp = x.ramp := by
  unfold Axis.command; split <;> rfl

theorem Axis.command_demand (x : Axis) (b : Brake) : (Axis.command x b).demand = x.demand := by
  unfold Axis.command; split <;> rfl

theorem Axis.command_limits (x : Axis) (b : Brake) : (Axis.command x b).limits = x.limits := by
  unfold Axis.command; split <;> rfl

/-- A change of the brake command starts the confirmation timer (05 R105). -/
theorem Axis.command_timer (x : Axis) {b : Brake} (h : x.brake ≠ b) : (Axis.command x b).brakeTimer = some 200 := by
  unfold Axis.command; rw [if_neg h]; rfl

theorem Axis.command_same (x : Axis) {b : Brake} (h : x.brake = b) : Axis.command x b = x := if_pos h

theorem startRun_eq (c : CurrentCue) (s : State) :
    startRun c s
      = (((((s.withCue (s.cue.started c)).withAxis s.axis.launched).withEngine (engineStarting c s)).withStore
          (s.store.aimed (AloftRecord.ofClaim s.flyer (some ⟨c.runKey, c.box⟩)))).withRoster
            { s.roster with skewReported := false }).withLine (lineStarting c s) := by
  unfold startRun lineStarting
  simp only [enterAxis_eq]
  cases hh : s.cue.held with
  | none =>
    cases s
    simp only at hh
    simp [hh, State.withCue, State.withAxis, State.withLine, State.withStore, State.withEngine, State.withRoster,
      State.withdraw, beginSegment, State.aimAloft, State.flyer, State.conf, storeEntering, CueUnit.started,
      Axis.launched, Axis.command_state, Axis.command_inputs, engineStarting, Store.aimed]
  | some h =>
    cases s
    simp only at hh
    simp [hh, State.withCue, State.withAxis, State.withLine, State.withStore, State.withEngine, State.withRoster,
      State.withdraw, beginSegment, State.aimAloft, State.flyer, State.conf, storeEntering, CueUnit.started,
      Axis.launched, Axis.command_state, Axis.command_inputs, engineStarting, Store.aimed, State.post]
    split <;> rfl

theorem testStart_true {s : State} {c : CurrentCue} (hc : s.cue.current = some c) (h : startCondition s = true) :
    testStart s = startRun c s := by
  simp [testStart, hc, h]

theorem testStart_false {s : State} (h : startCondition s = false) : testStart s = s := by
  unfold testStart
  split <;> simp [h]

/-! ### The completion of a run (03 R71, 05 R101) -/

/-- The cue unit after a completion: no claim is held after a landing. -/
def CueUnit.completed (u : CueUnit) (c : CurrentCue) : CueUnit :=
  { u with held := if c.landing then none else some ⟨c.runKey, c.box⟩, current := none }

/-- The axis after a completion. -/
def Axis.landed (x : Axis) (a : AxisState) : Axis := { Axis.command x .set with demand := 0, state := a }

/-- The line interface after a completion: DONE, the PRESENCE of the axis change, and a lead's RELEASE after a landing. -/
def lineCompleting (c : CurrentCue) (s : State) : Line :=
  let l := lineEntering s.axis.state (s.restByHaul .poised)
    (Line.offer s.line (.done s.flyer c.segment c.reps) .plain)
  if c.landing && s.isLead then Line.offer l (.release c.runKey) .plain else l

/-- The store after a completion: a set aloft record's target loses its covering claim at a landing (09 R176). -/
def storeCompleting (c : CurrentCue) (s : State) : Store :=
  let st := storeEntering s.axis.state (s.restByHaul .poised) s.store
  if c.landing then
    match st.aloft.target with
    | .clear => st
    | .set .. => st.aimed (AloftRecord.ofClaim s.flyer none)
  else st

theorem completeRun_eq {s : State} {c : CurrentCue} (hc : s.cue.current = some c) (hp : c.phase = .running) :
    completeRun s
      = ((((s.withEngine (Engine.toIdle s.engine)).withCue (s.cue.completed c)).withAxis
          (s.axis.landed (s.restByHaul .poised))).withLine (lineCompleting c s)).withStore (storeCompleting c s) := by
  have hr : ∀ p, ((s.withEngine (Engine.toIdle s.engine)).post p).restByHaul .poised = s.restByHaul .poised := fun _ => rfl
  unfold completeRun settleHeld lineCompleting storeCompleting
  simp only [hc, hp, if_true, hr, enterAxis_eq]
  cases hl : c.landing
  · cases s
    simp [State.withCue, State.withAxis, State.withLine, State.withStore, State.withEngine, State.post,
      CueUnit.completed, Axis.landed, Axis.command_state, hl, State.flyer, State.conf]
  · have hlead : ∀ l, (((((s.withEngine (Engine.toIdle s.engine)).post (.done s.flyer c.segment c.reps)).withAxis
          { (Axis.command s.axis .set) with demand := 0, state := s.restByHaul .poised }).withLine l).withStore
          (storeEntering s.axis.state (s.restByHaul .poised) s.store)).isLead = s.isLead := fun _ => rfl
    cases hb : s.isLead <;>
    cases ht : (storeEntering s.axis.state (s.restByHaul .poised) s.store).aloft.target <;>
      simp_all [State.coverChanged, State.aimAloft, Store.aimed, Axis.command_state, State.withCue, State.withAxis, State.withLine, State.withStore, State.withEngine, State.post,
      CueUnit.completed, Axis.landed, State.flyer, State.conf, State.isLead, State.members]

end Sys2Proof.Machine
end

section
/-! What an operation keeps: the laws of the state one by one, for operations in the midst of an event, with the rule for an update of each block. -/

namespace Sys2Proof.Machine

/-! ### The laws in the midst of an event -/

/-- The outgoing queue holds at most 8 posts, in the order of their ages, all below the next age to be given. -/
def Line.Ordered (l : Line) : Prop :=
  l.queue.length ≤ 8 ∧ AgesBelow l ∧ (l.queue.map (·.age)).Pairwise (· < ·)

/-- While COPYING the table holds the entries received, and at most 24 are expected (02 R35, R36). -/
def CopyFits (s : State) : Prop :=
  s.sync.phase = .copying → s.reg.table.length = s.sync.received ∧ s.sync.expected ≤ 24

/-- A lock record that differs from its target has its write waiting or in flight. -/
def LockAsked (s : State) : Prop :=
  s.store.lockRec.target ≠ s.store.lockRec.stored →
    .lockWrite ∈ s.store.waiting ∨ MemOp.isLock s.store.inFlight = true

/-- What `LockAsked` is in the midst of an event: a write not yet asked for leaves the aloft record's target clear and no cue armed. -/
def LockAskedOrClear (s : State) : Prop :=
  LockAsked s ∨ (s.store.aloft.target = .clear ∧ s.axis.state ≠ .armed)

/-- The laws of the records but for `LockAsked`, which the end of an event restores. -/
structure PortRecords (s : State) : Prop where
  port : PortLaws s.store
  copy : s.store.lockRec.target = s.lock.copy
  parked : s.axis.state = .parked → s.store.aloft.target = .clear
  lockedClear : s.lock.copy.isSome = true → s.store.aloft.target = .clear
  swapAtRest : s.store.copy.isSome = true → s.axis.state ≠ .armed ∧ s.axis.state ≠ .flying
  lockWrite : ∀ c, s.store.inFlight = some (.lockWrite (some c)) → s.store.lockRec.target = some c
  aloftWrite : ∀ v, s.store.inFlight = some (.aloftWrite v) → v ≠ .clear →
    s.store.lockRec.target = none ∧ (s.store.lockRec.stored = none ∨ s.store.aloft.stored ≠ .clear)
  locking : s.store.lockRec.target ≠ none →
    (s.store.lockRec.target ≠ s.store.lockRec.stored ∨ .lockWrite ∈ s.store.waiting
      ∨ MemOp.isLock s.store.inFlight = true) →
    s.store.aloft.stored = .clear
  order : s.store.lockRec.stored ≠ none → s.store.aloft.stored = .clear → .aloftWrite ∈ s.store.waiting →
    s.store.waiting.idxOf .lockWrite < s.store.waiting.idxOf .aloftWrite
      ∨ MemOp.isLock s.store.inFlight = true
      ∨ MemOp.isFlag s.store.inFlight = true ∧ s.store.aloft.target = .clear

theorem RecordLaws.portRecords {s : State} (h : RecordLaws s) : PortRecords s :=
  ⟨h.port, h.copy, h.parked, h.lockedClear, h.swapAtRest, h.lockWrite, h.aloftWrite, h.locking, h.order⟩

theorem PortRecords.recordLaws {s : State} (h : PortRecords s) (ha : LockAsked s) : RecordLaws s :=
  ⟨h.port, h.copy, h.parked, h.lockedClear, h.swapAtRest, ha, h.lockWrite, h.aloftWrite, h.locking, h.order⟩

/-- The laws an operation may be let off: evaluating the changes at a copy's end moves the table away from the copy's count, a copied entry has room by that count alone, and arming a cue wants the lock's write asked for. -/
inductive Exempt where
  | copying | table | asked
  deriving DecidableEq

/-- From `s` to `t` every law is kept but those in `ex`; the laws of register and records lean on those of the axis. -/
structure KeepsBut (ex : List Exempt) (s t : State) : Prop where
  memory : MemoryCanonical s → MemoryCanonical t
  line : s.line.Ordered → t.line.Ordered
  cues : s.cue.queue.length ≤ 8 → t.cue.queue.length ≤ 8
  waiting : s.sync.waitList.length ≤ 4 → t.sync.waitList.length ≤ 4
  changes : s.sync.changes.length ≤ 8 → t.sync.changes.length ≤ 8
  table : .table ∉ ex → s.reg.table.length ≤ 24 → t.reg.table.length ≤ 24
  copying : .copying ∉ ex → CopyFits s → CopyFits t
  slots : SlotsFit s → SlotsFit t
  axis : AxisLaws s → AxisLaws t
  register : AxisLaws s → RegisterLaws s → RegisterLaws t
  records : AxisLaws s → PortRecords s → PortRecords t
  asked : .asked ∉ ex → AxisLaws s → PortRecords s → LockAskedOrClear s → LockAskedOrClear t
  stored : AxisLaws s → PortRecords s → BothStored t → BothStored s

abbrev Keeps (s t : State) : Prop := KeepsBut [] s t

theorem KeepsBut.refl (ex : List Exempt) (s : State) : KeepsBut ex s s :=
  ⟨id, id, id, id, id, fun _ => id, fun _ => id, id, id, fun _ => id, fun _ => id, fun _ _ _ => id, fun _ _ => id⟩

theorem KeepsBut.trans {ex : List Exempt} {s t u : State} (a : KeepsBut ex s t) (b : KeepsBut ex t u) :
    KeepsBut ex s u where
  memory h := b.memory (a.memory h)
  line h := b.line (a.line h)
  cues h := b.cues (a.cues h)
  waiting h := b.waiting (a.waiting h)
  changes h := b.changes (a.changes h)
  table hx h := b.table hx (a.table hx h)
  copying hx h := b.copying hx (a.copying hx h)
  slots h := b.slots (a.slots h)
  axis h := b.axis (a.axis h)
  register ha h := b.register (a.axis ha) (a.register ha h)
  records ha h := b.records (a.axis ha) (a.records ha h)
  asked hx ha hr h := b.asked hx (a.axis ha) (a.records ha hr) (a.asked hx ha hr h)
  stored ha hr h := a.stored ha hr (b.stored (a.axis ha) (a.records ha hr) h)

theorem KeepsBut.mono {ex ex' : List Exempt} {s t : State} (a : KeepsBut ex s t) (h : ex ⊆ ex') :
    KeepsBut ex' s t :=
  { a with
    table := fun hx => a.table (fun hm => hx (h hm))
    copying := fun hx => a.copying (fun hm => hx (h hm))
    asked := fun hx => a.asked (fun hm => hx (h hm)) }

theorem Keeps.but {s t : State} (a : Keeps s t) (ex : List Exempt) : KeepsBut ex s t :=
  a.mono (List.nil_subset ex)

/-! ### The laws read few fields -/

theorem AxisLaws.congr {s t : State} (h : AxisLaws s) (hstate : t.axis.state = s.axis.state)
    (hx : t.axis.origin = s.axis.origin ∨ t.axis.origin = none)
    (hf : t.axis.faults = s.axis.faults) (hb : t.axis.state ≠ .flying → t.axis.state ≠ .stopping →
      t.axis.state ≠ .locked → braked s → braked t)
    (hc : t.cue.current.map (·.phase) = s.cue.current.map (·.phase))
    (he : t.engine.state = .idle ↔ s.engine.state = .idle) (hl : t.lock.copy = s.lock.copy)
    (hs : t.cue.showStop = true → t.axis.state ≠ .armed ∧ t.axis.state ≠ .flying ∧ t.cue.queue = []) :
    AxisLaws t := by
  have hcur : ∀ p, currentIs p t ↔ currentIs p s := by
    intro p
    unfold currentIs
    cases ht : t.cue.current <;> cases hs : s.cue.current <;> simp_all
  constructor
  case armed => rw [hstate, hcur]; exact h.armed
  case flying => rw [hstate, hcur]; exact h.flying
  case engine => rw [hstate, h.engine, ne_eq, ne_eq, he]
  case origin =>
    intro o ho
    rcases hx with hx | hx
    · exact h.origin o (hx ▸ ho)
    · rw [hx] at ho; exact absurd ho (by simp)
  case faulted => rw [hstate, hf]; exact h.faulted
  case brake =>
    intro h1 h2 h3
    refine hb h1 h2 h3 ?_
    rw [hstate] at h1 h2 h3
    exact h.brake h1 h2 h3
  case lockKept => rw [hl, hstate]; exact h.lockKept
  case locked => rw [hl, hstate]; exact h.locked
  case showStop => exact hs

theorem RegisterLaws.congr {s t : State} (h : RegisterLaws s) (hstate : t.axis.state = s.axis.state)
    (hr : t.reg.state = s.reg.state)
    (hc : s.axis.state = .flying → t.cue.current.map (·.runKey) = s.cue.current.map (·.runKey))
    (ht : s.axis.state = .flying → ∀ c, s.cue.current = some c → hasKey s.reg.table c.runKey = true →
      hasKey t.reg.table c.runKey = true)
    (hp : t.sync.phase = s.sync.phase) (ha : t.sync.attemptTimer = s.sync.attemptTimer)
    (hy : t.sync.retryTimer = s.sync.retryTimer) : RegisterLaws t := by
  constructor
  case register => rw [hstate, hr]; exact h.register
  case runKey =>
    rw [hstate]
    intro hf
    obtain ⟨c, hcs, hk⟩ := h.runKey hf
    have hm := hc hf
    rw [hcs, Option.map_some, Option.map_eq_some_iff] at hm
    obtain ⟨d, hd, hdk⟩ := hm
    exact ⟨d, hd, hdk ▸ ht hf c hcs hk⟩
  case syncing => rw [hp, hr]; exact h.syncing
  case attempt => rw [hp, ha]; exact h.attempt
  case resting => rw [hp, hy]; exact h.resting

theorem PortRecords.congr {s t : State} (h : PortRecords s) (hs : t.store = s.store) (hl : t.lock = s.lock)
    (hx : t.axis.state = s.axis.state) : PortRecords t := by
  constructor
  case port => rw [hs]; exact h.port
  case copy => rw [hs, hl]; exact h.copy
  case parked => rw [hs, hx]; exact h.parked
  case lockedClear => rw [hs, hl]; exact h.lockedClear
  case swapAtRest => rw [hs, hx]; exact h.swapAtRest
  case lockWrite => rw [hs]; exact h.lockWrite
  case aloftWrite => rw [hs]; exact h.aloftWrite
  case locking => rw [hs]; exact h.locking
  case order => rw [hs]; exact h.order

theorem LockAskedOrClear.congr {s t : State} (h : LockAskedOrClear s) (hs : t.store = s.store)
    (hx : t.axis.state = .armed → s.axis.state = .armed) : LockAskedOrClear t := by
  rcases h with h | ⟨h, hn⟩
  · left; unfold LockAsked; rw [hs]; exact h
  · right; rw [hs]; exact ⟨h, fun ht => hn (hx ht)⟩

/-! ### Updates of one block -/

/-- Roster, counter of free values and waiting commands are read by no law, the line interface by that of its queue. -/
theorem keeps_of_eq {s t : State} (hcfg : t.cfg = s.cfg) (hreg : t.reg = s.reg) (hsync : t.sync = s.sync)
    (hcue : t.cue = s.cue) (heng : t.engine = s.engine) (hax : t.axis = s.axis) (hst : t.store = s.store)
    (hlock : t.lock = s.lock) (h : s.line.Ordered → t.line.Ordered) : Keeps s t := by
  obtain ⟨_, _, _, _, _, _, _, _, _, _, _, _, _, _⟩ := s
  obtain ⟨_, _, _, _, _, _, _, _, _, _, _, _, _, _⟩ := t
  subst hcfg hreg hsync hcue heng hax hst hlock
  exact
    { memory := id, line := h, cues := id, waiting := id, changes := id, table := fun _ => id, copying := fun _ => id
      slots := id
      axis := fun h =>
        ⟨h.armed, h.flying, h.engine, h.origin, h.faulted, h.brake, h.lockKept, h.locked, h.showStop⟩
      register := fun _ h => ⟨h.register, h.runKey, h.syncing, h.attempt, h.resting⟩
      records := fun _ h => h.congr rfl rfl rfl
      asked := fun _ _ _ h => h.congr rfl id
      stored := fun _ _ => id }

theorem keeps_withLine (s : State) (l : Line) (h : s.line.Ordered → l.Ordered) : Keeps s (s.withLine l) :=
  keeps_of_eq rfl rfl rfl rfl rfl rfl rfl rfl h

theorem keeps_withRoster (s : State) (r : Roster) : Keeps s (s.withRoster r) :=
  keeps_of_eq rfl rfl rfl rfl rfl rfl rfl rfl id

/-- An update of the cue unit that no law notices: phase and run key of the current cue, the bound of the queue, and what the show-stop latch demands. -/
structure CueKept (u v : CueUnit) : Prop where
  phase : v.current.map (·.phase) = u.current.map (·.phase)
  runKey : v.current.map (·.runKey) = u.current.map (·.runKey)
  queue : u.queue.length ≤ 8 → v.queue.length ≤ 8
  showStop : v.showStop = true →
    u.showStop = true ∧ (u.queue = [] → v.queue = []) ∨ v.queue = [] ∧ v.current = none

theorem CueKept.of_eq {u v : CueUnit} (hc : v.current = u.current)
    (hq : v.queue = u.queue) (hl : v.showStop = u.showStop) : CueKept u v :=
  ⟨by rw [hc], by rw [hc], by rw [hq]; exact id, fun h => .inl ⟨hl ▸ h, fun e => hq.trans e⟩⟩

theorem keeps_withCue (s : State) {v : CueUnit} (k : CueKept s.cue v)
    (hs : SlotsFit s → v.slots.length = s.cue.slots.length) : Keeps s (s.withCue v) where
  memory := id
  line := id
  cues := k.queue
  waiting := id
  changes := id
  table _ := id
  copying _ := id
  slots h := (hs h).trans h
  axis h := by
    refine h.congr rfl (.inl rfl) rfl (fun _ _ _ => id) k.phase Iff.rfl rfl (fun hs => ?_)
    rcases k.showStop hs with ⟨hold, hq⟩ | ⟨hq, hn⟩
    · obtain ⟨h1, h2, h3⟩ := h.showStop hold
      exact ⟨h1, h2, hq h3⟩
    · have hno : ∀ p, ¬currentIs p s := by
        rintro p ⟨c, hc, -⟩
        have := k.phase
        rw [hn, hc] at this
        simp at this
      exact ⟨fun ha => hno _ (h.armed.mp ha), fun hf => hno _ (h.flying.mp hf), hq⟩
  register _ h := h.congr rfl rfl (fun _ => k.runKey) (fun _ _ _ => id) rfl rfl rfl
  records _ h := h.congr rfl rfl rfl
  asked _ _ _ h := h.congr rfl id
  stored _ _ := id

theorem keeps_withEngine (s : State) (e : Engine) (h : e.state = .idle ↔ s.engine.state = .idle) :
    Keeps s (s.withEngine e) where
  memory := id
  line := id
  cues := id
  waiting := id
  changes := id
  table _ := id
  copying _ := id
  slots := id
  axis ha := ha.congr rfl (.inl rfl) rfl (fun _ _ _ => id) rfl h rfl ha.showStop
  register _ h := ⟨h.register, h.runKey, h.syncing, h.attempt, h.resting⟩
  records _ h := h.congr rfl rfl rfl
  asked _ _ _ h := h.congr rfl id
  stored _ _ := id

/-- An update of the axis that leaves its state: a brake set at demand 0 stays so outside FLYING, STOPPING and LOCKED. -/
theorem keeps_withAxis (s : State) (x : Axis) (hst : x.state = s.axis.state) (ho : x.origin = s.axis.origin)
    (hf : x.faults = s.axis.faults)
    (hb : x.state ≠ .flying → x.state ≠ .stopping → x.state ≠ .locked →
      s.axis.brake = .set → s.axis.demand = 0 → x.brake = .set ∧ x.demand = 0) :
    Keeps s (s.withAxis x) where
  memory := id
  line := id
  cues := id
  waiting := id
  changes := id
  table _ := id
  copying _ := id
  slots := id
  axis h := by
    refine h.congr hst (.inl ho) hf (fun h1 h2 h3 hbr => hb h1 h2 h3 hbr.1 hbr.2) rfl Iff.rfl rfl (fun hs => ?_)
    obtain ⟨h1, h2, h3⟩ := h.showStop hs
    exact ⟨fun e => h1 (hst ▸ e), fun e => h2 (hst ▸ e), h3⟩
  register _ h := h.congr hst rfl (fun _ => rfl) (fun _ _ _ => id) rfl rfl rfl
  records _ h := h.congr rfl rfl hst
  asked _ _ _ h := h.congr rfl (fun e => hst ▸ e)
  stored _ _ := id

/-- An update of the sync unit outside its phases: the timers of the attempt and its rest stay. -/
theorem keeps_withSync (s : State) (u : SyncUnit) (hp : u.phase = s.sync.phase)
    (ha : u.attemptTimer = s.sync.attemptTimer) (hy : u.retryTimer = s.sync.retryTimer)
    (he : u.expected = s.sync.expected) (hr : u.received = s.sync.received)
    (hw : s.sync.waitList.length ≤ 4 → u.waitList.length ≤ 4)
    (hc : s.sync.changes.length ≤ 8 → u.changes.length ≤ 8) : Keeps s (s.withSync u) where
  memory := id
  line := id
  cues := id
  waiting := hw
  changes := hc
  table _ := id
  copying _ h := by
    unfold CopyFits at *
    simp only [State.withSync_sync, State.withSync_reg, hp, he, hr]
    exact h
  slots := id
  axis h := ⟨h.armed, h.flying, h.engine, h.origin, h.faulted, h.brake, h.lockKept, h.locked, h.showStop⟩
  register _ h := h.congr rfl rfl (fun _ => rfl) (fun _ _ _ => id) hp ha hy
  records _ h := h.congr rfl rfl rfl
  asked _ _ _ h := h.congr rfl id
  stored _ _ := id

theorem keeps_withFreeCount (s : State) (n : Nat) : Keeps s (s.withFreeCount n) :=
  keeps_of_eq rfl rfl rfl rfl rfl rfl rfl rfl id

theorem keeps_withPending (s : State) (q : List Instr) : Keeps s (s.withPending q) :=
  keeps_of_eq rfl rfl rfl rfl rfl rfl rfl rfl id

end Sys2Proof.Machine
end

section
/-! What the operations of the line interface, the cue unit and the axis keep. -/

namespace Sys2Proof.Machine

/-! ### The order of the outgoing queue -/

/-- A queue that lost posts, or was stamped, stays ordered. -/
theorem Line.Ordered.of_sublist {l l' : Line} (h : l.Ordered)
    (hs : List.Sublist (l'.queue.map (·.age)) (l.queue.map (·.age))) (hn : l.nextAge ≤ l'.nextAge) : l'.Ordered := by
  obtain ⟨hlen, hage, hpw⟩ := h
  refine ⟨?_, fun o ho => ?_, hpw.sublist hs⟩
  · have := hs.length_le
    simp only [List.length_map] at this
    omega
  · obtain ⟨o', ho', he⟩ := List.mem_map.mp (hs.subset (List.mem_map_of_mem ho))
    have := hage o' ho'
    omega

/-- A post offered joins at the tail with the next age, where there is room or a post gives way. -/
theorem Line.Ordered.offer {l : Line} (h : l.Ordered) (p : Post) (u : PostUse) : (Line.offer l p u).Ordered := by
  have hlen : (Line.offer l p u).queue.length ≤ 8 := Line.offer_length l p u h.1
  have tail : ∀ q : List OutPost, List.Sublist q l.queue →
      (∀ o ∈ q ++ [(⟨p, u, l.nextAge⟩ : OutPost)], o.age < l.nextAge + 1)
        ∧ ((q ++ [(⟨p, u, l.nextAge⟩ : OutPost)]).map (·.age)).Pairwise (· < ·) := by
    intro q hq
    have hold : ∀ o ∈ q, o.age < l.nextAge := fun o ho => h.2.1 o (hq.subset ho)
    constructor
    · intro o ho
      rcases List.mem_append.mp ho with ho | ho
      · exact Nat.lt_succ_of_lt (hold o ho)
      · rw [List.mem_singleton.mp ho]; exact Nat.lt_succ_self _
    · rw [List.map_append, List.pairwise_append]
      refine ⟨h.2.2.sublist (hq.map _), List.pairwise_singleton _ _, ?_⟩
      intro a ha b hb
      obtain ⟨o, ho, rfl⟩ := List.mem_map.mp ha
      rw [List.map_singleton, List.mem_singleton] at hb
      subst hb
      exact hold o ho
  refine ⟨hlen, ?_⟩
  unfold Line.offer
  split
  case h_1 | h_2 | h_3 => exact h.2
  all_goals
    simp only
    split
    · exact tail l.queue (List.Sublist.refl _)
    · split
      · exact tail _ List.eraseP_sublist
      · exact ⟨fun o ho => Nat.lt_succ_of_lt (h.2.1 o ho), h.2.2⟩

theorem Line.requestPresence_nextAge (l : Line) : l.nextAge ≤ (Line.requestPresence l).nextAge := by
  unfold Line.requestPresence
  split
  · split
    · exact Nat.le_succ _
    · split <;> exact Nat.le_refl _
  all_goals exact Nat.le_refl _

theorem Line.Ordered.requestPresence {l : Line} (h : l.Ordered) : (Line.requestPresence l).Ordered :=
  h.of_sublist (by simp) (Line.requestPresence_nextAge l)

theorem Line.Ordered.entering {l : Line} (h : l.Ordered) (a b : AxisState) : (lineEntering a b l).Ordered := by
  unfold lineEntering
  split
  · exact h
  · exact h.requestPresence

theorem Line.Ordered.withdraw {l : Line} (h : l.Ordered) (f : OutPost → Bool) : (Line.withdraw l f).Ordered :=
  h.of_sublist (List.filter_sublist.map _) (Nat.le_refl _)

theorem Line.Ordered.afterDelivery {l : Line} (h : l.Ordered) (own : Option OutRef) :
    (Line.afterDelivery l own).Ordered := by
  refine h.of_sublist ?_ (Line.afterDelivery_nextAge l own)
  rcases own with _ | ⟨a⟩ | _
  · exact List.Sublist.refl _
  · exact List.eraseP_sublist.map _
  · exact List.Sublist.refl _

/-- An emptied queue is in order. -/
theorem Line.ordered_of_empty {l : Line} (h : l.queue = []) : l.Ordered := by
  unfold Line.Ordered AgesBelow
  rw [h]
  simp

theorem Line.Ordered.dropping {s : State} (h : s.line.Ordered) (c : CurrentCue) (r : CutReason) (w : Bool) :
    (lineDropping c r w s).Ordered := by
  unfold lineDropping lineGivingBack
  have h1 := (h.entering s.axis.state (originState s.axis)).withdraw (postOfCue c (r == .space))
  have h2 : (if w then Line.offer (Line.withdraw (lineEntering s.axis.state (originState s.axis) s.line)
      (postOfCue c (r == .space))) (.cut s.flyer c.segment c.reps 0 r.code) .plain
      else Line.withdraw (lineEntering s.axis.state (originState s.axis) s.line)
        (postOfCue c (r == .space))).Ordered := by
    cases w
    · exact h1
    · exact h1.offer _ _
  simp only
  split
  · exact h2.offer _ _
  · exact h2

theorem Line.Ordered.cutting {s : State} (h : s.line.Ordered) (c : CurrentCue) (r : CutReason) (b : AxisState) :
    (lineCutting c r s b).Ordered :=
  (h.entering _ _).offer _ _

theorem Line.Ordered.flushing {s : State} (h : s.line.Ordered) : (lineFlushing s).Ordered := by
  unfold lineFlushing
  split
  · exact h
  · exact h.offer _ _

theorem Line.Ordered.starting {s : State} (h : s.line.Ordered) (c : CurrentCue) : (lineStarting c s).Ordered := by
  unfold lineStarting
  have h1 := (h.withdraw (postOfWait c)).entering s.axis.state .flying
  simp only
  split
  · split
    · exact h1.offer _ _
    · exact h1
  · exact h1

theorem Line.Ordered.completing {s : State} (h : s.line.Ordered) (c : CurrentCue) : (lineCompleting c s).Ordered := by
  unfold lineCompleting
  have h1 := (h.offer (.done s.flyer c.segment c.reps) .plain).entering s.axis.state (s.restByHaul .poised)
  simp only
  split
  · exact h1.offer _ _
  · exact h1

/-! ### Posting -/

theorem keeps_post (s : State) (p : Post) : Keeps s (s.post p) := keeps_withLine s _ (fun h => h.offer _ _)

theorem keeps_postFor (s : State) (u : PostUse) (p : Post) : Keeps s (s.postFor u p) :=
  keeps_withLine s _ (fun h => h.offer _ _)

theorem keeps_notice (s : State) (c : NoticeCode) (n : Nat) (g : Option Nat) (d : Nat) :
    Keeps s (s.notice c n g d) :=
  keeps_post s _

theorem keeps_askPresence (s : State) : Keeps s s.askPresence := keeps_withLine s _ (fun h => h.requestPresence)

theorem keeps_withdraw (s : State) (f : OutPost → Bool) : Keeps s (s.withdraw f) :=
  keeps_withLine s _ (fun h => h.withdraw f)

/-! ### The aloft record's target -/

@[simp] theorem Store.aimed_mem (st : Store) (v : AloftRecord) : (st.aimed v).mem = st.mem := rfl

theorem storeEntering_eq (a b : AxisState) (st : Store) :
    storeEntering a b st = st ∨ b = .parked ∧ storeEntering a b st = st.aimed .clear := by
  unfold storeEntering
  split
  · rename_i h; exact .inr ⟨h.1, rfl⟩
  · exact .inl rfl

@[simp] theorem storeEntering_mem (a b : AxisState) (st : Store) : (storeEntering a b st).mem = st.mem := by
  rcases storeEntering_eq a b st with h | ⟨-, h⟩ <;> rw [h]; rfl

/-- The laws of the records through a change of axis state and of the aloft record's target: a set target wants a free lock, an axis out of PARKED and no flag write under way. -/
theorem PortRecords.aimed {s t : State} (h : PortRecords s) {v : AloftRecord} (hs : t.store = s.store.aimed v)
    (hl : t.lock = s.lock) (hset : v ≠ .clear → t.axis.state ≠ .parked ∧ s.lock.copy.isSome = false
      ∧ (s.store.aloft.target ≠ .clear ∨ MemOp.isFlag s.store.inFlight = false))
    (hrest : s.store.copy.isSome = true → t.axis.state ≠ .armed ∧ t.axis.state ≠ .flying) : PortRecords t := by
  constructor
  case port =>
    rw [hs]
    exact ⟨h.port.oneAloft, h.port.oneLock, h.port.oneFlag, h.port.oneSlice, h.port.flagValue, h.port.swapping,
      h.port.slices⟩
  case copy => rw [hs, hl]; exact h.copy
  case parked =>
    intro hp
    rw [hs]
    by_contra hv
    exact (hset hv).1 hp
  case lockedClear =>
    intro hk
    rw [hs]
    by_contra hv
    rw [hl, (hset hv).2.1] at hk
    exact absurd hk (by simp)
  case swapAtRest => rw [hs]; exact hrest
  case lockWrite => rw [hs]; exact h.lockWrite
  case aloftWrite => rw [hs]; exact h.aloftWrite
  case locking => rw [hs]; exact h.locking
  case order =>
    rw [hs]
    intro h1 h2 h3
    rcases h.order h1 h2 h3 with ho | ho | ⟨hf, hc⟩
    · exact .inl ho
    · exact .inr (.inl ho)
    · refine .inr (.inr ⟨hf, ?_⟩)
      by_contra hv
      rcases (hset hv).2.2 with hn | hn
      · exact hn hc
      · have hf' : MemOp.isFlag s.store.inFlight = true := hf
        rw [hn] at hf'
        exact absurd hf' (by simp)

/-- The laws of the records where only the axis state changes, not into PARKED, ARMED or FLYING. -/
theorem PortRecords.axisMoved {s t : State} (h : PortRecords s) (hs : t.store = s.store) (hl : t.lock = s.lock)
    (hp : t.axis.state = .parked → s.store.aloft.target = .clear)
    (hrest : s.store.copy.isSome = true → t.axis.state ≠ .armed ∧ t.axis.state ≠ .flying) : PortRecords t := by
  constructor
  case port => rw [hs]; exact h.port
  case copy => rw [hs, hl]; exact h.copy
  case parked => rw [hs]; exact hp
  case lockedClear => rw [hs, hl]; exact h.lockedClear
  case swapAtRest => rw [hs]; exact hrest
  case lockWrite => rw [hs]; exact h.lockWrite
  case aloftWrite => rw [hs]; exact h.aloftWrite
  case locking => rw [hs]; exact h.locking
  case order => rw [hs]; exact h.order

/-- The laws of the records through an entry of the axis into `b`, not ARMED or FLYING where the store is SWAPPING. -/
theorem PortRecords.entering {s t : State} (h : PortRecords s) {b : AxisState}
    (hs : t.store = storeEntering s.axis.state b s.store) (hb : t.axis.state = b) (hl : t.lock = s.lock)
    (hrest : s.store.copy.isSome = true → b ≠ .armed ∧ b ≠ .flying) : PortRecords t := by
  rcases storeEntering_eq s.axis.state b s.store with he | ⟨-, he⟩
  · refine h.axisMoved (hs.trans he) hl (fun hp => ?_) (by rw [hb]; exact hrest)
    rw [hb] at hp
    subst hp
    by_cases ha : s.axis.state = .parked
    · exact h.parked ha
    · rw [storeEntering_parked s.store ha] at he
      exact (congrArg (fun st => st.aloft.target) he).symm
  · exact h.aimed (hs.trans he) hl (fun hv => absurd rfl hv) (by rw [hb]; exact hrest)

theorem lockAsked_of_store {s t : State} (h : LockAsked s) (h1 : t.store.lockRec = s.store.lockRec)
    (h2 : t.store.waiting = s.store.waiting) (h3 : t.store.inFlight = s.store.inFlight) : LockAsked t := by
  unfold LockAsked
  rw [h1, h2, h3]
  exact h

theorem storeEntering_fields (a b : AxisState) (st : Store) :
    (storeEntering a b st).lockRec = st.lockRec ∧ (storeEntering a b st).waiting = st.waiting
      ∧ (storeEntering a b st).inFlight = st.inFlight ∧ (storeEntering a b st).aloft.stored = st.aloft.stored := by
  rcases storeEntering_eq a b st with h | ⟨-, h⟩ <;> rw [h] <;> exact ⟨rfl, rfl, rfl, rfl⟩

/-- The entry into an axis state that is not ARMED asks no more of the lock's write. -/
theorem LockAskedOrClear.entering {s t : State} (h : LockAskedOrClear s) {b : AxisState}
    (hs : t.store = storeEntering s.axis.state b s.store) (hb : t.axis.state ≠ .armed) : LockAskedOrClear t := by
  obtain ⟨h1, h2, h3, -⟩ := storeEntering_fields s.axis.state b s.store
  rcases h with h | ⟨h, -⟩
  · exact .inl (lockAsked_of_store h (by rw [hs, h1]) (by rw [hs, h2]) (by rw [hs, h3]))
  · refine .inr ⟨?_, hb⟩
    rw [hs]
    rcases storeEntering_eq s.axis.state b s.store with he | ⟨-, he⟩ <;> rw [he]
    · exact h
    · rfl

end Sys2Proof.Machine
end

section
/-! What the drop, the cut, the flush, the start, the completion and the entry into FAULTED keep (03 R59, R65 to R72; 05 R99 to R102, R112). -/

namespace Sys2Proof.Machine

/-! ### The axis laws of particular states -/

theorem AxisState.atRest.ne {a : AxisState} (h : AxisState.atRest a = true) :
    a ≠ .armed ∧ a ≠ .flying ∧ a ≠ .stopping ∧ a ≠ .faulted ∧ a ≠ .locked ∧ a ≠ .unconfigured := by
  cases a <;> simp [AxisState.atRest] at h <;> decide

theorem currentIs_none {s : State} (h : s.cue.current = none) (p : CuePhase) : ¬currentIs p s := by
  rintro ⟨c, hc, -⟩
  rw [h] at hc
  exact absurd hc (by simp)

theorem currentIs_iff {s : State} {c : CurrentCue} (h : s.cue.current = some c) (p : CuePhase) :
    currentIs p s ↔ c.phase = p := by
  unfold currentIs
  rw [h]
  simp

/-- The laws of an axis at rest: no current cue, an idle engine, nothing latched, the brake set and the lock free. -/
theorem AxisLaws.of_rest {s : State} (hrest : AxisState.atRest s.axis.state = true) (hc : s.cue.current = none)
    (he : s.engine.state = .idle) (ho : ∀ o, s.axis.origin = some o → AxisState.atRest o = true)
    (hf : FaultSet.isEmpty s.axis.faults = true) (hb : braked s) (hl : s.lock.copy = none)
    (hs : s.cue.showStop = true → s.cue.queue = []) : AxisLaws s := by
  obtain ⟨h1, h2, -, h4, h5, -⟩ := AxisState.atRest.ne hrest
  exact
    { armed := iff_of_false h1 (currentIs_none hc _)
      flying := iff_of_false h2 (currentIs_none hc _)
      engine := iff_of_false h2 (fun h => h he)
      origin := ho
      faulted := iff_of_false h4 (by rw [hf]; simp)
      brake := fun _ _ _ => hb
      lockKept := fun h => by rw [hl] at h; exact absurd h (by simp)
      locked := fun h => absurd h h5
      showStop := fun h => ⟨h1, h2, hs h⟩ }

theorem AxisLaws.state_of_armed {s : State} {c : CurrentCue} (h : AxisLaws s) (hc : s.cue.current = some c)
    (hp : c.phase = .armed) : s.axis.state = .armed :=
  h.armed.mpr ⟨c, hc, hp⟩

theorem AxisLaws.state_of_running {s : State} {c : CurrentCue} (h : AxisLaws s) (hc : s.cue.current = some c)
    (hp : c.phase = .running) : s.axis.state = .flying :=
  h.flying.mpr ⟨c, hc, hp⟩

theorem AxisLaws.engine_idle {s : State} (h : AxisLaws s) (hf : s.axis.state ≠ .flying) : s.engine.state = .idle := by
  by_contra hn
  exact hf (h.engine.mpr hn)

theorem AxisLaws.faults_empty {s : State} (h : AxisLaws s) (hf : s.axis.state ≠ .faulted) :
    FaultSet.isEmpty s.axis.faults = true := by
  rw [← Bool.not_eq_false]
  exact fun hn => hf (h.faulted.mpr hn)

theorem AxisLaws.lock_free {s : State} (h : AxisLaws s) (h1 : s.axis.state ≠ .locked) (h2 : s.axis.state ≠ .faulted) :
    s.lock.copy = none := by
  rw [← Option.not_isSome_iff_eq_none]
  intro hk
  rcases h.lockKept hk with hl | hl
  · exact h1 hl
  · exact h2 hl

/-- With the axis neither ARMED nor FLYING the laws of the register ask nothing of the cue. -/
theorem RegisterLaws.grounded {s t : State} (h : RegisterLaws s) (ha : t.axis.state ≠ .armed)
    (hf : t.axis.state ≠ .flying) (hr : t.reg = s.reg) (hs : t.sync = s.sync) : RegisterLaws t where
  register hx := absurd hx (by simp [ha, hf])
  runKey hx := absurd hx hf
  syncing := by rw [hr, hs]; exact h.syncing
  attempt := by rw [hs]; exact h.attempt
  resting := by rw [hs]; exact h.resting

/-- The laws through a composite change of cue, axis and engine that brings the axis into `b`, neither ARMED nor FLYING. -/
theorem keeps_entering {s t : State} {b : AxisState} (hst : t.store = storeEntering s.axis.state b s.store)
    (hb : t.axis.state = b) (hnot : AxisLaws s → b ≠ .armed ∧ b ≠ .flying)
    (hline : s.line.Ordered → t.line.Ordered) (hq : t.cue.queue.length ≤ s.cue.queue.length)
    (hslots : t.cue.slots.length = s.cue.slots.length) (hax : AxisLaws s → AxisLaws t)
    (hcfg : t.cfg = s.cfg) (hreg : t.reg = s.reg) (hsync : t.sync = s.sync)
    (hlock : t.lock = s.lock) : Keeps s t where
  memory h := by unfold MemoryCanonical at *; rw [hst, storeEntering_mem]; exact h
  line := hline
  cues h := hq.trans h
  waiting := by rw [hsync]; exact id
  changes := by rw [hsync]; exact id
  table _ := by rw [hreg]; exact id
  copying _ := by unfold CopyFits; rw [hsync, hreg]; exact id
  slots h := by
    unfold SlotsFit State.members State.conf at *
    rw [hcfg, hslots]; exact h
  axis := hax
  register ha h := by
    obtain ⟨h1, h2⟩ := hnot ha
    exact h.grounded (hb ▸ h1) (hb ▸ h2) hreg hsync
  records ha h := h.entering hst hb hlock (fun _ => hnot ha)
  asked _ ha _ h := h.entering hst (hb ▸ (hnot ha).1)
  stored _ _ h := by
    obtain ⟨h1, -, -, h4⟩ := storeEntering_fields s.axis.state b s.store
    unfold BothStored at *
    rw [hst, h1, h4] at h
    exact h

/-! ### Drop, cut and flush -/

theorem originState_rest {s : State} (h : AxisLaws s) (ha : s.axis.state = .armed) :
    AxisState.atRest (originState s.axis) = true := by
  unfold originState
  rw [if_pos ha]
  cases ho : s.axis.origin with
  | none => rfl
  | some o => exact h.origin o ho

theorem AxisLaws.showStop_off {s : State} (h : AxisLaws s) (ha : s.axis.state = .armed ∨ s.axis.state = .flying) :
    s.cue.showStop = false := by
  rw [← Bool.not_eq_true]
  intro hs
  obtain ⟨h1, h2, -⟩ := h.showStop hs
  rcases ha with ha | ha
  · exact h1 ha
  · exact h2 ha

theorem keeps_dropArmed {s : State} {c : CurrentCue} (r : CutReason) (w : Bool) (hc : s.cue.current = some c)
    (hp : c.phase = .armed) : Keeps s (dropArmed c r w s) := by
  rw [dropArmed_eq]
  refine keeps_entering (b := originState s.axis) (by simp) (by simp) (fun h => ?_)
    (fun h => by simpa using h.dropping c r w) (by simp [CueUnit.dropped]) (by simp [CueUnit.dropped]) (fun h => ?_)
    (by simp) (by simp) (by simp) (by simp)
  · obtain ⟨h1, h2, -⟩ := AxisState.atRest.ne (originState_rest h (h.state_of_armed hc hp))
    exact ⟨h1, h2⟩
  · have ha := h.state_of_armed hc hp
    refine AxisLaws.of_rest (originState_rest h ha) rfl (h.engine_idle (by simp [ha])) (fun o ho => ?_)
      (h.faults_empty (by simp [ha])) (h.brake (by simp [ha]) (by simp [ha]) (by simp [ha]))
      (h.lock_free (by simp [ha]) (by simp [ha])) (fun hs => ?_)
    · exact absurd ho (by simp)
    · have hs' : s.cue.showStop = true := hs
      rw [h.showStop_off (.inl ha)] at hs'
      exact absurd hs' (by simp)

theorem keeps_dropCue (r : CutReason) (w : Bool) (s : State) : Keeps s (dropCue r w s) := by
  unfold dropCue
  split
  · rename_i c hc
    split
    · rename_i hp; exact keeps_dropArmed r w hc hp
    · exact .refl _ s
  · exact .refl _ s

theorem keeps_dropMatching (sh sg : Nat) (r : CutReason) (s : State) : Keeps s (dropMatching sh sg r s) := by
  unfold dropMatching
  split
  · split
    · exact keeps_dropCue r true s
    · exact .refl _ s
  · exact .refl _ s

theorem keeps_cutRunning {s : State} {c : CurrentCue} {r : CutReason} (hr : r ≠ .fault)
    (hc : s.cue.current = some c) (hp : c.phase = .running) : Keeps s (cutRunning c r s) := by
  by_cases hf : s.axis.state = .flying
  · rw [cutRunning_flying c hr hf]
    refine keeps_entering (b := .stopping) (by simp [storeEntering_of_ne]) (by simp [Axis.stopping])
      (fun _ => by decide) (fun h => by simpa using h.cutting c r .stopping) (by simp [CueUnit.cutOff])
      (by simp [CueUnit.cutOff]) (fun h => ?_) (by simp) (by simp) (by simp) (by simp)
    refine
      { armed := iff_of_false (by simp [Axis.stopping]) (currentIs_none rfl _)
        flying := iff_of_false (by simp [Axis.stopping]) (currentIs_none rfl _)
        engine := iff_of_false (by simp [Axis.stopping]) (fun hn => hn rfl)
        origin := h.origin
        faulted := iff_of_false (by simp [Axis.stopping]) ?_
        brake := fun _ hs => absurd rfl hs
        lockKept := fun hk => ?_
        locked := fun hk => absurd hk (by simp [Axis.stopping])
        showStop := fun hs => ?_ }
    · have := h.faults_empty (by simp [hf])
      simp [Axis.stopping, this]
    · have := h.lock_free (by simp [hf]) (by simp [hf])
      have hk' : s.lock.copy.isSome = true := hk
      rw [this] at hk'
      exact absurd hk' (by simp)
    · have hs' : s.cue.showStop = true := hs
      rw [h.showStop_off (.inr hf)] at hs'
      exact absurd hs' (by simp)
  · rw [cutRunning_other c (.inr hf)]
    exact keeps_entering (b := s.axis.state) (by simp) (by simp)
      (fun h => absurd (h.state_of_running hc hp) hf) (fun h => by simpa using h.cutting c r _)
      (by simp [CueUnit.cutOff]) (by simp [CueUnit.cutOff]) (fun h => absurd (h.state_of_running hc hp) hf)
      (by simp) (by simp) (by simp) (by simp)

theorem keeps_cutRun {r : CutReason} (hr : r ≠ .fault) (s : State) : Keeps s (cutRun r s) := by
  unfold cutRun
  split
  · rename_i c hc
    split
    · rename_i hp; exact keeps_cutRunning hr hc hp
    · exact .refl _ s
  · exact .refl _ s

theorem keeps_flush (s : State) : Keeps s (flush s) := by
  rw [flush_eq]
  refine (keeps_withCue s (v := s.cue.flushed) ⟨rfl, rfl, fun _ => Nat.zero_le _, fun h => .inl ⟨h, fun _ => rfl⟩⟩
    (fun _ => rfl)).trans ?_
  exact keeps_withLine _ _ (fun h => Line.Ordered.flushing (s := s) h)

/-! ### Start and completion -/

theorem startCondition_iff (s : State) :
    startCondition s = true ↔ ∃ c, s.cue.current = some c ∧ c.phase = .armed
      ∧ (∀ x ∈ s.cue.slots, x = some (c.showNo, c.segment)) ∧ hasEntry s.reg.table c.runKey c.box = true := by
  unfold startCondition
  cases s.cue.current with
  | none => simp
  | some c => simp [and_assoc]

theorem hasKey_of_hasEntry {table : List Entry} {k : Key} {b : Box} (h : hasEntry table k b = true) :
    hasKey table k = true := by
  unfold hasEntry at h
  unfold hasKey
  rw [List.any_eq_true] at h ⊢
  obtain ⟨e, he, hk⟩ := h
  exact ⟨e, he, (Bool.and_eq_true_iff.mp hk).1⟩

theorem PortRecords.flag_idle {s : State} (h : PortRecords s)
    (ha : s.axis.state = .armed ∨ s.axis.state = .flying) : MemOp.isFlag s.store.inFlight = false := by
  rw [← Bool.not_eq_true]
  intro hf
  obtain ⟨h1, h2⟩ := h.swapAtRest (h.port.swapping (.inr (.inl hf)))
  rcases ha with ha | ha
  · exact h1 ha
  · exact h2 ha

theorem engineStarting_state (c : CurrentCue) (s : State) : (engineStarting c s).state = .playing := by
  unfold engineStarting Engine.begin Engine.load Engine.atPosition
  simp only
  split <;> rfl

section
variable (c : CurrentCue) (s : State)
@[simp] theorem startRun_power : (startRun c s).power = s.power := by simp [startRun_eq]
@[simp] theorem startRun_strap : (startRun c s).strap = s.strap := by simp [startRun_eq]
@[simp] theorem startRun_cfg : (startRun c s).cfg = s.cfg := by simp [startRun_eq]
@[simp] theorem startRun_reg : (startRun c s).reg = s.reg := by simp [startRun_eq]
@[simp] theorem startRun_sync : (startRun c s).sync = s.sync := by simp [startRun_eq]
@[simp] theorem startRun_cue : (startRun c s).cue = s.cue.started c := by simp [startRun_eq]
@[simp] theorem startRun_engine : (startRun c s).engine = engineStarting c s := by simp [startRun_eq]
@[simp] theorem startRun_axis : (startRun c s).axis = s.axis.launched := by simp [startRun_eq]
@[simp] theorem startRun_roster : (startRun c s).roster = { s.roster with skewReported := false } := by
  simp [startRun_eq]
@[simp] theorem startRun_line : (startRun c s).line = lineStarting c s := by simp [startRun_eq]
@[simp] theorem startRun_store :
    (startRun c s).store = s.store.aimed (AloftRecord.ofClaim s.flyer (some ⟨c.runKey, c.box⟩)) := by
  simp [startRun_eq]
@[simp] theorem startRun_lock : (startRun c s).lock = s.lock := by simp [startRun_eq]
@[simp] theorem startRun_freeCount : (startRun c s).freeCount = s.freeCount := by simp [startRun_eq]
@[simp] theorem startRun_pending : (startRun c s).pending = s.pending := by simp [startRun_eq]
end

theorem axisLaws_startRun {s : State} {c : CurrentCue} (h : AxisLaws s) (hc : s.cue.current = some c)
    (hp : c.phase = .armed) : AxisLaws (startRun c s) := by
  have ha := h.state_of_armed hc hp
  have hx : (startRun c s).axis.state = .flying := by simp [Axis.launched]
  have hcur : (startRun c s).cue.current = some { c with phase := .running } := by simp [CueUnit.started]
  exact
    { armed := iff_of_false (by rw [hx]; decide) (by simp [currentIs_iff hcur])
      flying := iff_of_true hx (by simp [currentIs_iff hcur])
      engine := iff_of_true hx (by simp [engineStarting_state])
      origin := by simp [Axis.launched, Axis.command_origin]
      faulted := iff_of_false (by rw [hx]; decide)
        (by simp [Axis.launched, Axis.command_faults, h.faults_empty (by simp [ha] : s.axis.state ≠ .faulted)])
      brake := fun hn => absurd hx hn
      lockKept := by simp [h.lock_free (by simp [ha]) (by simp [ha])]
      locked := fun hl => absurd (hx.symm.trans hl) (by decide)
      showStop := by simp [CueUnit.started, h.showStop_off (.inl ha)] }

theorem keeps_startRun {s : State} {c : CurrentCue} (hc : s.cue.current = some c) (hp : c.phase = .armed)
    (he : hasEntry s.reg.table c.runKey c.box = true) : Keeps s (startRun c s) where
  memory h := by simpa [MemoryCanonical] using h
  line h := by simpa using h.starting c
  cues h := by simpa [CueUnit.started] using h
  waiting h := by simpa using h
  changes h := by simpa using h
  table _ h := by simpa using h
  copying _ h := by simpa [CopyFits] using h
  slots h := by simpa [SlotsFit, State.members, State.conf, CueUnit.started] using h
  axis h := axisLaws_startRun h hc hp
  register ha h :=
    { register := by simpa using fun _ => h.register (.inl (ha.state_of_armed hc hp))
      runKey := fun _ => ⟨{ c with phase := .running }, by simp [CueUnit.started], by simpa using hasKey_of_hasEntry he⟩
      syncing := by simpa using h.syncing
      attempt := by simpa using h.attempt
      resting := by simpa using h.resting }
  records ha h := by
    have hx := ha.state_of_armed hc hp
    refine h.aimed (startRun_store c s) (startRun_lock c s)
      (fun _ => ⟨by simp [Axis.launched], ?_, .inr (h.flag_idle (.inl hx))⟩) (fun hs => absurd hx (h.swapAtRest hs).1)
    rw [ha.lock_free (by simp [hx]) (by simp [hx])]; rfl
  asked _ ha _ h := by
    rcases h with h | h
    · exact .inl (lockAsked_of_store h (by simp [Store.aimed]) (by simp [Store.aimed]) (by simp [Store.aimed]))
    · exact absurd (ha.state_of_armed hc hp) h.2
  stored _ _ h := by simpa [BothStored, Store.aimed] using h

theorem keeps_testStart (s : State) : Keeps s (testStart s) := by
  cases h : startCondition s with
  | false => rw [testStart_false h]; exact .refl _ s
  | true =>
    obtain ⟨c, hc, hp, -, he⟩ := (startCondition_iff s).mp h
    rw [testStart_true hc h]
    exact keeps_startRun hc hp he

/-- A set target loses or changes its covering claim and stays set (09 R176). -/
theorem keeps_coverChanged (s : State) (h : Option Held) : Keeps s (s.coverChanged h) := by
  unfold State.coverChanged
  cases ht : s.store.aloft.target with
  | clear => exact .refl _ s
  | set f k b0 b1 b2 =>
    have hn : s.store.aloft.target ≠ .clear := by rw [ht]; simp
    exact
      { memory := id, line := id, cues := id, waiting := id, changes := id, table := fun _ => id, copying := fun _ => id
        slots := id
        axis := fun h => ⟨h.armed, h.flying, h.engine, h.origin, h.faulted, h.brake, h.lockKept, h.locked, h.showStop⟩
        register := fun _ h => ⟨h.register, h.runKey, h.syncing, h.attempt, h.resting⟩
        records := fun _ hr => hr.aimed (v := AloftRecord.ofClaim s.flyer h) rfl rfl
          (fun _ => ⟨fun hp => hn (hr.parked hp), by
            rw [← Bool.not_eq_true]; exact fun hk => hn (hr.lockedClear hk), .inl hn⟩) hr.swapAtRest
        asked := fun _ _ _ ha => by
          rcases ha with ha | ha
          · exact .inl (lockAsked_of_store ha rfl rfl rfl)
          · exact absurd ha.1 hn
        stored := fun _ _ => id }

/-- The state a completion leaves but for the covering claim of the aloft record. -/
def runLanded (c : CurrentCue) (s : State) : State :=
  ((((s.withEngine (Engine.toIdle s.engine)).withCue (s.cue.completed c)).withAxis
    (s.axis.landed (s.restByHaul .poised))).withLine (lineCompleting c s)).withStore
      (storeEntering s.axis.state (s.restByHaul .poised) s.store)

theorem completeRun_cover {s : State} {c : CurrentCue} (hc : s.cue.current = some c) (hp : c.phase = .running) :
    completeRun s = if c.landing then (runLanded c s).coverChanged none else runLanded c s := by
  rw [completeRun_eq hc hp]
  unfold storeCompleting State.coverChanged
  cases c.landing
  · rfl
  · cases ht : (storeEntering s.axis.state (s.restByHaul .poised) s.store).aloft.target <;>
      simp [runLanded, ht, State.aimAloft, Store.aimed]; rfl

theorem restByHaul_rest (s : State) {a : AxisState} (h : AxisState.atRest a = true) :
    AxisState.atRest (s.restByHaul a) = true := by
  unfold State.restByHaul
  split
  · rfl
  · exact h

theorem keeps_completeRun {s : State} {c : CurrentCue} (hc : s.cue.current = some c) (hp : c.phase = .running) :
    Keeps s (completeRun s) := by
  have hrest : AxisState.atRest (s.restByHaul .poised) = true := restByHaul_rest s rfl
  have hl : Keeps s (runLanded c s) := by
    refine keeps_entering (b := s.restByHaul .poised) (by simp [runLanded]) (by simp [runLanded, Axis.landed])
      (fun _ => ?_) (fun h => by simpa [runLanded] using h.completing c) (by simp [runLanded, CueUnit.completed])
      (by simp [runLanded, CueUnit.completed]) (fun h => ?_) (by simp [runLanded]) (by simp [runLanded])
      (by simp [runLanded]) (by simp [runLanded])
    · obtain ⟨h1, h2, -⟩ := AxisState.atRest.ne hrest
      exact ⟨h1, h2⟩
    · have hx := h.state_of_running hc hp
      refine AxisLaws.of_rest (by simpa [runLanded, Axis.landed] using hrest) (by simp [runLanded, CueUnit.completed])
        (by simp [runLanded, Engine.toIdle]) (fun o ho => h.origin o ?_) ?_ ?_ ?_ ?_
      · simpa [runLanded, Axis.landed, Axis.command_origin] using ho
      · simpa [runLanded, Axis.landed, Axis.command_faults] using h.faults_empty (by simp [hx])
      · simp [braked, runLanded, Axis.landed, Axis.command_brake]
      · simpa [runLanded] using h.lock_free (by simp [hx]) (by simp [hx])
      · simp [runLanded, CueUnit.completed, h.showStop_off (.inr hx)]
  rw [completeRun_cover hc hp]
  split
  · exact hl.trans (keeps_coverChanged _ none)
  · exact hl

/-! ### The entry into FAULTED -/

/-- The end of the current cue: nothing, a drop or a cut. -/
theorem cutRun_dropCue_cases (r : CutReason) (s : State) :
    (s.cue.current = none ∧ cutRun r (dropCue r true s) = s)
      ∨ (∃ c, s.cue.current = some c ∧ c.phase = .armed ∧ cutRun r (dropCue r true s) = dropArmed c r true s)
      ∨ ∃ c, s.cue.current = some c ∧ c.phase = .running ∧ cutRun r (dropCue r true s) = cutRunning c r s := by
  cases hc : s.cue.current with
  | none =>
    refine .inl ⟨rfl, ?_⟩
    rw [dropCue_of_not_armed r true (by simp [hc]), cutRun_of_not_running r (by simp [hc])]
  | some c =>
    cases hp : c.phase with
    | armed =>
      refine .inr (.inl ⟨c, rfl, hp, ?_⟩)
      rw [dropCue_armed r true hc hp, cutRun_of_not_running r (by simp [dropArmed_eq, CueUnit.dropped])]
    | running =>
      refine .inr (.inr ⟨c, rfl, hp, ?_⟩)
      rw [dropCue_of_not_armed r true (by simp [hc, hp]), cutRun_running r hc hp]

/-- The axis as an entry into FAULTED sets it before the cue unit acts (05 R112). -/
def Axis.faulting (x : Axis) (kinds : FaultSet) : Axis :=
  { Axis.command x .set with
    state := .faulted, demand := 0, ramp := none, faults := FaultSet.union x.faults kinds }

/-- The state an entry into FAULTED has when the current cue has ended. -/
def faultCueEnded (kinds : FaultSet) (s : State) : State :=
  let u := cutRun .fault (dropCue .fault true (s.withAxis (s.axis.faulting kinds)))
  u.withAxis { u.axis with origin := none }

theorem enterFaulted_eq (kinds : FaultSet) (s : State) :
    enterFaulted kinds s
      = ((flush (faultCueEnded kinds s)).post (.halt s.flyer (faultReason kinds).code)).askPresence := rfl

/-- What the end of the current cue at an entry into FAULTED leaves. -/
theorem faultCueEnded_fields (kinds : FaultSet) (s : State) :
    (faultCueEnded kinds s).store = s.store
      ∧ (faultCueEnded kinds s).cue.queue = s.cue.queue ∧ (faultCueEnded kinds s).cue.slots = s.cue.slots
      ∧ (faultCueEnded kinds s).cue.showStop = s.cue.showStop
      ∧ (s.line.Ordered → (faultCueEnded kinds s).line.Ordered)
      ∧ ((∀ c, s.cue.current = some c → c.phase = .armed) → (faultCueEnded kinds s).engine = s.engine)
      ∧ (∀ c, s.cue.current = some c → c.phase = .running →
          (faultCueEnded kinds s).engine = Engine.toIdle s.engine) := by
  unfold faultCueEnded
  have hx : (s.withAxis (s.axis.faulting kinds)).axis.state = .faulted := rfl
  rcases cutRun_dropCue_cases .fault (s.withAxis (s.axis.faulting kinds)) with ⟨hc, h⟩ | ⟨c, hc, hp, h⟩ | ⟨c, hc, hp, h⟩
  · simp only [h]
    refine ⟨by simp, by simp, by simp, by simp, by simp, fun _ => by simp, fun c hc' => ?_⟩
    rw [State.withAxis_cue] at hc
    rw [hc] at hc'
    exact absurd hc' (by simp)
  · have ho : originState (s.withAxis (s.axis.faulting kinds)).axis = .faulted := by
      unfold originState
      rw [if_neg (by rw [hx]; decide), hx]
    simp only [h, dropArmed_eq, ho, hx]
    refine ⟨by simp, by simp [CueUnit.dropped], by simp [CueUnit.dropped], by simp [CueUnit.dropped], fun hl => ?_,
      fun _ => by simp, fun d hd hr => ?_⟩
    · simpa using Line.Ordered.dropping (s := s.withAxis (s.axis.faulting kinds)) hl c .fault true
    rw [State.withAxis_cue] at hc
    rw [hc, Option.some.injEq] at hd
    subst hd
    rw [hp] at hr
    exact absurd hr (by decide)
  · simp only [h, cutRunning_other c (.inl rfl)]
    refine ⟨by simp, by simp [CueUnit.cutOff], by simp [CueUnit.cutOff], by simp [CueUnit.cutOff], fun hl => ?_,
      fun hn => ?_, fun _ _ _ => by simp⟩
    · simpa using Line.Ordered.cutting (s := s.withAxis (s.axis.faulting kinds)) hl c .fault _
    have := hn c hc
    rw [hp] at this
    exact absurd this (by decide)

theorem enterFaulted_store (kinds : FaultSet) (s : State) : (enterFaulted kinds s).store = s.store := by
  rw [enterFaulted_eq, State.askPresence_store, State.post_store, flush_store]
  exact (faultCueEnded_fields kinds s).1

theorem enterFaulted_engine_idle {s : State} (h : AxisLaws s) (kinds : FaultSet) :
    (enterFaulted kinds s).engine.state = .idle := by
  obtain ⟨-, -, -, -, -, hA, hR⟩ := faultCueEnded_fields kinds s
  rw [enterFaulted_eq, State.askPresence_engine, State.post_engine, flush_engine]
  by_cases hf : s.axis.state = .flying
  · obtain ⟨c, hc, hp⟩ := h.flying.mp hf
    rw [hR c hc hp]
    rfl
  · rw [hA (fun c hc => ?_)]
    · exact h.engine_idle hf
    · cases hp : c.phase with
      | armed => rfl
      | running => exact absurd (h.state_of_running hc hp) hf

theorem FaultSet.union_nonempty (f : FaultSet) {g : FaultSet} (h : FaultSet.isEmpty g = false) :
    FaultSet.isEmpty (FaultSet.union f g) = false := by
  simp only [FaultSet.isEmpty, FaultSet.union, Bool.not_eq_false', Bool.or_eq_true] at *
  tauto

theorem keeps_enterFaulted {kinds : FaultSet} (hk : FaultSet.isEmpty kinds = false) (s : State) :
    Keeps s (enterFaulted kinds s) := by
  obtain ⟨hst, hq, hsl, hss, hl, -, -⟩ := faultCueEnded_fields kinds s
  have ho := outsideCue_enterFaulted kinds s
  have hcue := enterFaulted_cue kinds s
  have hcue' : (enterFaulted kinds s).cue = (faultCueEnded kinds s).cue.flushed := by
    rw [enterFaulted_eq, State.askPresence_cue, State.post_cue, flush_eq]; rfl
  have hx : (enterFaulted kinds s).axis.state = .faulted := by rw [enterFaulted_axis]
  refine keeps_entering (b := .faulted) ?_ hx (fun _ => by decide)
    (fun h => ?_) (by rw [hcue.2]; exact Nat.zero_le _) ?_ (fun h => ?_) ho.cfg ho.reg ho.sync ho.lock
  · rw [enterFaulted_store, storeEntering_of_ne _ _ (by decide)]
  · rw [enterFaulted_eq, State.askPresence_line, State.post_line, flush_eq]
    exact ((hl h).flushing.offer _ _).requestPresence
  · rw [hcue']; exact congrArg List.length hsl
  · refine
      { armed := iff_of_false (by rw [hx]; decide) (currentIs_none hcue.1 _)
        flying := iff_of_false (by rw [hx]; decide) (currentIs_none hcue.1 _)
        engine := iff_of_false (by rw [hx]; decide) (fun hn => hn (enterFaulted_engine_idle h kinds))
        origin := fun o ho' => ?_
        faulted := iff_of_true hx ?_
        brake := fun _ _ _ => ?_
        lockKept := fun _ => .inr hx
        locked := fun h' => absurd h' (by rw [hx]; decide)
        showStop := fun _ => ⟨by rw [hx]; decide, by rw [hx]; decide, hcue.2⟩ }
    · rw [enterFaulted_axis] at ho'; exact absurd ho' (by simp)
    · rw [enterFaulted_axis]; exact FaultSet.union_nonempty _ hk
    · unfold braked
      rw [enterFaulted_axis]
      exact ⟨Axis.command_brake _ _, rfl⟩

theorem keeps_detect (kinds : FaultSet) (s : State) : Keeps s (detect kinds s) := by
  unfold detect
  split
  · exact .refl _ s
  · rename_i hk
    rw [Bool.or_eq_true, not_or, Bool.not_eq_true] at hk
    split
    · rename_i hf
      simp only
      split
      · exact .refl _ s
      · refine .trans (t := s.withAxis _) ?_ (keeps_askPresence _)
        refine keeps_entering (b := .faulted) (by simp [storeEntering_of_ne]) hf (fun _ => by decide) id
          (Nat.le_refl _) rfl (fun h => ?_) rfl rfl rfl rfl
        exact ⟨h.armed, h.flying, h.engine, h.origin, iff_of_true hf (FaultSet.union_nonempty _ hk.1), h.brake,
          h.lockKept, h.locked, h.showStop⟩
    · exact keeps_enterFaulted hk.1 s

end Sys2Proof.Machine
end

section
/-! What operations leave unchanged: frames composed along a chain of operations, one frame for each operation. -/

namespace Sys2Proof.Machine

/-! ### The frames' own rules -/

theorem CueUnit.sameBut.trans {a b c : CueUnit} (h1 : CueUnit.sameBut a b) (h2 : CueUnit.sameBut b c) :
    CueUnit.sameBut a c := by
  unfold CueUnit.sameBut at *
  have h3 : { c with chainDelay := a.chainDelay, reclaim := a.reclaim }
      = { ({ c with chainDelay := b.chainDelay, reclaim := b.reclaim } : CueUnit) with
          chainDelay := a.chainDelay, reclaim := a.reclaim } := rfl
  rw [h3, h2, h1]

theorem Store.sameBut.trans {a b c : Store} (h1 : Store.sameBut a b) (h2 : Store.sameBut b c) :
    Store.sameBut a c := by
  unfold Store.sameBut at *
  have h3 : { c with waiting := a.waiting, inFlight := a.inFlight }
      = { ({ c with waiting := b.waiting, inFlight := b.inFlight } : Store) with
          waiting := a.waiting, inFlight := a.inFlight } := rfl
  rw [h3, h2, h1]

theorem unchanged.trans {s t u : State} {b : Block} (h1 : unchanged s t b) (h2 : unchanged t u b) :
    unchanged s u b := by
  cases b
  case cue => exact CueUnit.sameBut.trans h1 h2
  case store => exact Store.sameBut.trans h1 h2
  all_goals exact Eq.trans h2 h1

theorem FrameBut.refl (bs : List Block) (s : State) : FrameBut bs s s :=
  ⟨rfl, rfl, rfl, rfl, fun b _ => unchanged_refl s b⟩

theorem FrameBut.mono {bs cs : List Block} {s t : State} (h : FrameBut bs s t) (hb : bs ⊆ cs) : FrameBut cs s t := by
  obtain ⟨hp, hs, hc, hq, hu⟩ := h
  exact ⟨hp, hs, hc, hq, fun b hn => hu b (fun hm => hn (hb hm))⟩

theorem FrameBut.trans {bs : List Block} {s t u : State} (h1 : FrameBut bs s t) (h2 : FrameBut bs t u) :
    FrameBut bs s u := by
  obtain ⟨hp, hs, hc, hq, hu⟩ := h1
  obtain ⟨hp', hs', hc', hq', hu'⟩ := h2
  exact ⟨hp'.trans hp, hs'.trans hs, hc'.trans hc, hq'.trans hq, fun b hn => (hu b hn).trans (hu' b hn)⟩

/-- Two frames along a chain make one over any list that holds both. -/
theorem FrameBut.chain {bs cs ds : List Block} {s t u : State} (h1 : FrameBut bs s t) (h2 : FrameBut cs t u)
    (hb : bs ⊆ ds) (hc : cs ⊆ ds) : FrameBut ds s u :=
  (h1.mono hb).trans (h2.mono hc)

/-- A frame over a longer list. -/
theorem FrameBut.over {bs cs : List Block} {s t : State} (h : FrameBut bs s t) (hb : bs ⊆ cs) :
    FrameBut cs s t :=
  h.mono hb

theorem FrameBut.ite {bs : List Block} {s t u : State} {p : Prop} [Decidable p] (h1 : FrameBut bs s t)
    (h2 : FrameBut bs s u) : FrameBut bs s (if p then t else u) := by
  split
  · exact h1
  · exact h2

section
variable {bs : List Block} {s t : State}

theorem FrameBut.power (h : FrameBut bs s t) : t.power = s.power := h.1
theorem FrameBut.strap (h : FrameBut bs s t) : t.strap = s.strap := h.2.1
theorem FrameBut.cfg (h : FrameBut bs s t) : t.cfg = s.cfg := h.2.2.1
theorem FrameBut.pending (h : FrameBut bs s t) : t.pending = s.pending := h.2.2.2.1

/-- A block that a frame does not give up is unchanged. -/
theorem FrameBut.block (h : FrameBut bs s t) (b : Block) (hb : b ∉ bs) : unchanged s t b :=
  h.2.2.2.2 b hb

theorem FrameBut.flyer (h : FrameBut bs s t) : t.flyer = s.flyer := by
  unfold State.flyer State.conf; rw [h.cfg]
theorem FrameBut.conf (h : FrameBut bs s t) : t.conf = s.conf := by
  unfold State.conf; rw [h.cfg]
theorem FrameBut.members (h : FrameBut bs s t) : t.members = s.members := by
  unfold State.members; rw [h.conf]
theorem FrameBut.isLead (h : FrameBut bs s t) : t.isLead = s.isLead := by
  unfold State.isLead; rw [h.members, h.strap]

end

/-- A frame from the blocks one by one: what is fixed first, then each block outside the list. -/
theorem FrameBut.of {bs : List Block} {s t : State}
    (hfix : t.power = s.power ∧ t.strap = s.strap ∧ t.cfg = s.cfg ∧ t.pending = s.pending)
    (hb : ∀ b : Block, b ∉ bs → unchanged s t b) : FrameBut bs s t := by
  obtain ⟨hp, hs, hc, hq⟩ := hfix
  exact ⟨hp, hs, hc, hq, hb⟩

/-! ### Updates of one block -/

theorem frame_withReg (s : State) (v : AirRegister) : FrameBut [.reg] s (s.withReg v) :=
  .of ⟨rfl, rfl, rfl, rfl⟩ fun b hb => by cases b <;> trivial
theorem frame_withSync (s : State) (v : SyncUnit) : FrameBut [.sync] s (s.withSync v) :=
  .of ⟨rfl, rfl, rfl, rfl⟩ fun b hb => by cases b <;> trivial
theorem frame_withCue (s : State) (v : CueUnit) : FrameBut [.cue] s (s.withCue v) :=
  .of ⟨rfl, rfl, rfl, rfl⟩ fun b hb => by cases b <;> trivial
theorem frame_withEngine (s : State) (v : Engine) : FrameBut [.engine] s (s.withEngine v) :=
  .of ⟨rfl, rfl, rfl, rfl⟩ fun b hb => by cases b <;> trivial
theorem frame_withAxis (s : State) (v : Axis) : FrameBut [.axis] s (s.withAxis v) :=
  .of ⟨rfl, rfl, rfl, rfl⟩ fun b hb => by cases b <;> trivial
theorem frame_withRoster (s : State) (v : Roster) : FrameBut [.roster] s (s.withRoster v) :=
  .of ⟨rfl, rfl, rfl, rfl⟩ fun b hb => by cases b <;> trivial
theorem frame_withLine (s : State) (v : Line) : FrameBut [.line] s (s.withLine v) :=
  .of ⟨rfl, rfl, rfl, rfl⟩ fun b hb => by cases b <;> trivial
theorem frame_withLock (s : State) (v : LockUnit) : FrameBut [.lock] s (s.withLock v) :=
  .of ⟨rfl, rfl, rfl, rfl⟩ fun b hb => by cases b <;> trivial

/-- An update of the program store that leaves the words of memory. -/
theorem frame_withStore (s : State) {v : Store} (hm : v.mem = s.store.mem) : FrameBut [.store] s (s.withStore v) := by
  refine .of ⟨rfl, rfl, rfl, rfl⟩ fun b hb => ?_
  cases b
  case memory => exact hm
  all_goals trivial

theorem frame_post (s : State) (p : Post) : FrameBut [.line] s (s.post p) := frame_withLine s _
theorem frame_postFor (s : State) (u : PostUse) (p : Post) : FrameBut [.line] s (s.postFor u p) := frame_withLine s _
theorem frame_notice (s : State) (c : NoticeCode) (n : Nat) (g : Option Nat) (d : Nat) :
    FrameBut [.line] s (s.notice c n g d) :=
  frame_withLine s _
theorem frame_askPresence (s : State) : FrameBut [.line] s s.askPresence := frame_withLine s _
theorem frame_withdraw (s : State) (f : OutPost → Bool) : FrameBut [.line] s (s.withdraw f) := frame_withLine s _

theorem frame_enterAxis (s : State) (a : AxisState) : FrameBut [.axis, .line, .store] s (s.enterAxis a) := by
  rw [enterAxis_eq]
  refine .of ⟨rfl, rfl, rfl, rfl⟩ fun b hb => ?_
  cases b
  case memory => exact storeEntering_mem _ _ _
  all_goals trivial

theorem frame_heard (n : Fin 48) (p : Option Post) (s : State) : FrameBut [.roster, .line] s (heard n p s) :=
  .of ⟨rfl, rfl, rfl, rfl⟩ fun b hb => by cases b <;> trivial

/-! ### The cue unit -/

theorem frame_dropArmed (c : CurrentCue) (r : CutReason) (w : Bool) (s : State) :
    FrameBut [.cue, .axis, .line, .store] s (dropArmed c r w s) := by
  rw [dropArmed_eq]
  refine .of ⟨by simp, by simp, by simp, by simp⟩ fun b hb => ?_
  cases b
  case memory => exact storeEntering_mem _ _ _
  all_goals trivial

theorem frame_dropCue (r : CutReason) (w : Bool) (s : State) :
    FrameBut [.cue, .axis, .line, .store] s (dropCue r w s) := by
  unfold dropCue
  split
  · exact .ite (frame_dropArmed _ r w s) (.refl _ s)
  · exact .refl _ s

theorem frame_dropMatching (sh sg : Nat) (r : CutReason) (s : State) :
    FrameBut [.cue, .axis, .line, .store] s (dropMatching sh sg r s) := by
  unfold dropMatching
  split
  · exact .ite (frame_dropCue r true s) (.refl _ s)
  · exact .refl _ s

theorem frame_cutRunning (c : CurrentCue) (r : CutReason) (s : State) :
    FrameBut [.cue, .engine, .axis, .line] s (cutRunning c r s) := by
  by_cases h : r = .fault ∨ s.axis.state ≠ .flying
  · rw [cutRunning_other c h]
    exact .of ⟨rfl, rfl, rfl, rfl⟩ fun b hb => by cases b <;> trivial
  · rw [not_or, not_not] at h
    rw [cutRunning_flying c h.1 h.2]
    exact .of ⟨rfl, rfl, rfl, rfl⟩ fun b hb => by cases b <;> trivial

theorem frame_cutRun (r : CutReason) (s : State) : FrameBut [.cue, .engine, .axis, .line] s (cutRun r s) := by
  unfold cutRun
  split
  · exact .ite (frame_cutRunning _ r s) (.refl _ s)
  · exact .refl _ s

theorem frame_flush (s : State) : FrameBut [.cue, .line] s (flush s) := by
  rw [flush_eq]
  exact .of ⟨rfl, rfl, rfl, rfl⟩ fun b hb => by cases b <;> trivial

theorem frame_startRun (c : CurrentCue) (s : State) :
    FrameBut [.cue, .engine, .axis, .roster, .line, .store] s (startRun c s) :=
by
  refine .of ⟨startRun_power c s, startRun_strap c s, startRun_cfg c s, startRun_pending c s⟩ fun b hb => ?_
  cases b
  case reg => exact startRun_reg c s
  case sync => exact startRun_sync c s
  case lock => exact startRun_lock c s
  case free => exact startRun_freeCount c s
  case memory => rw [unchanged, startRun_store]; rfl
  all_goals trivial

theorem frame_testStart (s : State) : FrameBut [.cue, .engine, .axis, .roster, .line, .store] s (testStart s) := by
  unfold testStart
  split
  · exact .ite (frame_startRun _ s) (.refl _ s)
  · exact .refl _ s

theorem storeCompleting_mem (c : CurrentCue) (s : State) : (storeCompleting c s).mem = s.store.mem := by
  unfold storeCompleting
  simp only
  split
  · split <;> simp
  · simp

theorem frame_completeRun (s : State) : FrameBut [.cue, .engine, .axis, .line, .store] s (completeRun s) := by
  cases hc : s.cue.current with
  | none => simp only [completeRun, hc]; exact (frame_withEngine s _).over (by decide)
  | some c =>
    by_cases hp : c.phase = .running
    · rw [completeRun_eq hc hp]
      refine .of ⟨by simp, by simp, by simp, by simp⟩ fun b hb => ?_
      cases b
      case memory => exact storeCompleting_mem c s
      all_goals trivial
    · simp only [completeRun, hc, hp, if_false]; exact (frame_withEngine s _).over (by decide)

theorem frame_faultCueEnded (kinds : FaultSet) (s : State) :
    FrameBut [.cue, .engine, .axis, .line] s (faultCueEnded kinds s) := by
  have h := outsideCue_dropCue .fault true (s.withAxis (s.axis.faulting kinds)) |>.trans
    (outsideCue_cutRun .fault _)
  have hst : (faultCueEnded kinds s).store = s.store := (faultCueEnded_fields kinds s).1
  refine .of ⟨h.power, h.strap, h.cfg, h.pending⟩ fun b hb => ?_
  cases b
  case reg => exact h.reg
  case sync => exact h.sync
  case roster => exact h.roster
  case store => rw [unchanged, hst]; rfl
  case lock => exact h.lock
  case free => exact h.freeCount
  case memory => exact congrArg Store.mem hst
  all_goals trivial

theorem frame_enterFaulted (kinds : FaultSet) (s : State) :
    FrameBut [.cue, .engine, .axis, .line] s (enterFaulted kinds s) := by
  rw [enterFaulted_eq]
  have flushed : FrameBut [.cue, .engine, .axis, .line] s (flush (faultCueEnded kinds s)) :=
    (frame_faultCueEnded kinds s).chain (frame_flush _) (by decide) (by decide)
  have posted := flushed.chain (ds := [.cue, .engine, .axis, .line])
    (frame_post (flush (faultCueEnded kinds s)) (.halt s.flyer (faultReason kinds).code)) (by decide) (by decide)
  exact posted.chain (frame_askPresence _) (by decide) (by decide)

theorem frame_detect (kinds : FaultSet) (s : State) : FrameBut [.cue, .engine, .axis, .line] s (detect kinds s) := by
  unfold detect
  refine .ite (.refl _ s) (.ite ?_ (frame_enterFaulted kinds s))
  exact .ite (.refl _ s) ((frame_withAxis s _).chain (frame_askPresence _) (by decide) (by decide))

/-! ### Register and sync protocol -/

/-- The sync unit where the register goes from state `a` to `b` (02 R34). -/
def syncSetting (a b : RegisterState) (u : SyncUnit) : SyncUnit :=
  if a = b then u
  else if b = .current then { u with beenCurrent := true }
  else if a = .current then u.trimWaiting
  else u

/-- The roster where the register goes from state `a` to `b` (02 R41). -/
def rosterSetting (a b : RegisterState) (r : Roster) : Roster :=
  if a ≠ b ∧ (b = .current ∨ a = .current) then r.unmarkAll else r

theorem setRegister_eq (r : RegisterState) (s : State) :
    setRegister r s
      = ((s.withReg { s.reg with state := r }).withRoster (rosterSetting s.reg.state r s.roster)).withSync
          (syncSetting s.reg.state r s.sync) := by
  unfold setRegister rosterSetting syncSetting
  by_cases h : s.reg.state = r
  · subst h; simp; rfl
  · by_cases hr : r = .current
    · subst hr; simp [h]
    · by_cases hs : s.reg.state = .current
      · have back : RegisterState.current ≠ r := fun e => hr e.symm
        simp [hr, hs, back]
      · simp [h, hr, hs]; rfl

theorem frame_setRegister (r : RegisterState) (s : State) : FrameBut [.reg, .sync, .roster] s (setRegister r s) := by
  rw [setRegister_eq]
  exact .of ⟨rfl, rfl, rfl, rfl⟩ fun b hb => by cases b <;> trivial

theorem frame_becomeCurrent (s : State) : FrameBut [.reg, .sync, .roster] s (becomeCurrent s) :=
  (frame_withSync s _).chain (frame_setRegister _ _) (by decide) (by decide)

theorem frame_startRigAlone (s : State) : FrameBut [.reg, .sync, .roster] s (startRigAlone s) :=
  (frame_withReg s _).chain (frame_becomeCurrent _) (by decide) (by decide)

theorem frame_beginAttempt (r : Nat) (s : State) : FrameBut [.sync, .line] s (beginAttempt r s) :=
  (frame_withSync s _).chain (frame_post _ _) (by decide) (by decide)

theorem frame_choice (s : State) : FrameBut [.reg, .sync, .roster, .line] s (choice s) := by
  unfold choice
  refine .ite ?_ (.refl _ s)
  split
  · exact (frame_beginAttempt _ s).over (by decide)
  · exact .ite ((frame_startRigAlone s).over (by decide)) (.refl _ s)

theorem frame_failAttempt (s : State) : FrameBut [.reg, .sync, .roster, .line] s (failAttempt s) := by
  unfold failAttempt
  refine .ite ((frame_withSync s _).chain (frame_choice _) (by decide) (by decide)) ?_
  exact ((frame_withSync s _).trans (frame_withSync _ _)).chain (frame_notice _ _ _ _ _) (by decide) (by decide)

theorem frame_serveNext (s : State) : FrameBut [.sync, .line] s (serveNext s) := by
  unfold serveNext
  split
  · exact (frame_withSync s _).chain (frame_post _ _) (by decide) (by decide)
  · exact .refl _ s

theorem frame_endAnswer (s : State) : FrameBut [.sync, .line] s (endAnswer s) :=
  (frame_withSync s _).chain (frame_serveNext _) (by decide) (by decide)

/-! ### Claims and releases handed to the cue unit -/

theorem frame_beginSpaceWait (s : State) : FrameBut [.cue] s (beginSpaceWait s) := by
  unfold beginSpaceWait
  split
  · exact .ite (.refl _ s) (frame_withCue s _)
  · exact .refl _ s

theorem frame_cueAfterClaim (n : Nat) (k : Key) (v : Verdict) (s : State) :
    FrameBut [.cue, .engine, .axis, .roster, .line, .store] s (cueAfterClaim n k v s) := by
  unfold cueAfterClaim
  have h1 : FrameBut [.cue] s (if v.refused && n == s.strap && armedLead s k then beginSpaceWait s else s) :=
    .ite (frame_beginSpaceWait s) (.refl _ s)
  refine FrameBut.chain (bs := [.cue]) ?_ (frame_testStart _) (by decide) (by decide)
  exact .ite (h1.chain (frame_withCue _ _) (by decide) (by decide)) h1

theorem frame_retryClaim (s : State) : FrameBut [.line] s (retryClaim s) := by
  unfold retryClaim
  split
  · exact .ite (frame_postFor s _ _) (.refl _ s)
  · exact .refl _ s

theorem frame_retryReclaim (s : State) : FrameBut [.line] s (retryReclaim s) := by
  unfold retryReclaim
  split
  · exact .ite (frame_post s _) (.refl _ s)
  · exact .refl _ s

theorem frame_clearHeld (k : Key) (s : State) : FrameBut [.cue] s (clearHeld k s) := by
  unfold clearHeld
  split
  · exact .ite (frame_withCue s _) (.refl _ s)
  · exact .refl _ s

theorem frame_loseEntry (k : Key) (s : State) : FrameBut [.cue, .engine, .axis, .line] s (loseEntry k s) := by
  unfold loseEntry
  split
  · exact .ite (.ite (frame_cutRun _ s) (.ite ((frame_beginSpaceWait s).over (by decide)) (.refl _ s))) (.refl _ s)
  · exact .refl _ s

theorem frame_cueAfterRelease (k : Key) (removed : Bool) (s : State) :
    FrameBut [.cue, .engine, .axis, .roster, .line, .store] s (cueAfterRelease k removed s) := by
  unfold cueAfterRelease
  have h1 : FrameBut [.cue, .engine, .axis, .line] s
      (if removed then loseEntry k (clearHeld k s) else clearHeld k s) :=
    .ite ((frame_clearHeld k s).chain (frame_loseEntry k _) (by decide) (by decide))
      ((frame_clearHeld k s).over (by decide))
  have h2 := (h1.trans ((frame_retryClaim _).over (by decide))).trans ((frame_retryReclaim _).over (by decide))
  exact h2.chain (frame_testStart _) (by decide) (by decide)

theorem frame_evaluateClaim (n : Nat) (k : Key) (b : Box) (s : State) :
    FrameBut [.reg, .cue, .engine, .axis, .roster, .line, .store] s (evaluateClaim n k b s) :=
  (frame_withReg s _).chain (frame_cueAfterClaim _ _ _ _) (by decide) (by decide)

theorem frame_evaluateRelease (k : Key) (s : State) :
    FrameBut [.reg, .cue, .engine, .axis, .roster, .line, .store] s (evaluateRelease k s) :=
  (frame_withReg s _).chain (frame_cueAfterRelease _ _ _) (by decide) (by decide)

theorem frame_evaluateChange (c : Change) (s : State) :
    FrameBut [.reg, .cue, .engine, .axis, .roster, .line, .store] s (evaluateChange c s) := by
  cases c
  · exact frame_evaluateClaim _ _ _ s
  · exact frame_evaluateRelease _ s

end Sys2Proof.Machine
end

section
/-! The posts of an event of a calm part, and the fields that the end of an event leaves. -/

namespace Sys2Proof.Machine

/-! ### The configuration under block updates -/

@[simp] theorem State.withReg_conf (s : State) (v : AirRegister) : (s.withReg v).conf = s.conf := rfl
@[simp] theorem State.withReg_flyer (s : State) (v : AirRegister) : (s.withReg v).flyer = s.flyer := rfl
@[simp] theorem State.withReg_members (s : State) (v : AirRegister) : (s.withReg v).members = s.members := rfl
@[simp] theorem State.withSync_conf (s : State) (v : SyncUnit) : (s.withSync v).conf = s.conf := rfl
@[simp] theorem State.withSync_flyer (s : State) (v : SyncUnit) : (s.withSync v).flyer = s.flyer := rfl
@[simp] theorem State.withSync_members (s : State) (v : SyncUnit) : (s.withSync v).members = s.members := rfl
@[simp] theorem State.withCue_conf (s : State) (v : CueUnit) : (s.withCue v).conf = s.conf := rfl
@[simp] theorem State.withCue_flyer (s : State) (v : CueUnit) : (s.withCue v).flyer = s.flyer := rfl
@[simp] theorem State.withCue_members (s : State) (v : CueUnit) : (s.withCue v).members = s.members := rfl
@[simp] theorem State.withEngine_conf (s : State) (v : Engine) : (s.withEngine v).conf = s.conf := rfl
@[simp] theorem State.withEngine_flyer (s : State) (v : Engine) : (s.withEngine v).flyer = s.flyer := rfl
@[simp] theorem State.withEngine_members (s : State) (v : Engine) : (s.withEngine v).members = s.members := rfl
@[simp] theorem State.withAxis_conf (s : State) (v : Axis) : (s.withAxis v).conf = s.conf := rfl
@[simp] theorem State.withAxis_flyer (s : State) (v : Axis) : (s.withAxis v).flyer = s.flyer := rfl
@[simp] theorem State.withAxis_members (s : State) (v : Axis) : (s.withAxis v).members = s.members := rfl
@[simp] theorem State.withRoster_conf (s : State) (v : Roster) : (s.withRoster v).conf = s.conf := rfl
@[simp] theorem State.withRoster_flyer (s : State) (v : Roster) : (s.withRoster v).flyer = s.flyer := rfl
@[simp] theorem State.withRoster_members (s : State) (v : Roster) : (s.withRoster v).members = s.members := rfl
@[simp] theorem State.withLine_conf (s : State) (v : Line) : (s.withLine v).conf = s.conf := rfl
@[simp] theorem State.withLine_flyer (s : State) (v : Line) : (s.withLine v).flyer = s.flyer := rfl
@[simp] theorem State.withLine_members (s : State) (v : Line) : (s.withLine v).members = s.members := rfl
@[simp] theorem State.withStore_conf (s : State) (v : Store) : (s.withStore v).conf = s.conf := rfl
@[simp] theorem State.withStore_flyer (s : State) (v : Store) : (s.withStore v).flyer = s.flyer := rfl
@[simp] theorem State.withStore_members (s : State) (v : Store) : (s.withStore v).members = s.members := rfl
@[simp] theorem State.withLock_conf (s : State) (v : LockUnit) : (s.withLock v).conf = s.conf := rfl
@[simp] theorem State.withLock_flyer (s : State) (v : LockUnit) : (s.withLock v).flyer = s.flyer := rfl
@[simp] theorem State.withLock_members (s : State) (v : LockUnit) : (s.withLock v).members = s.members := rfl

/-! ### Fields that a frame keeps -/

section
variable {a b : CueUnit}

theorem CueUnit.sameBut.eq (h : CueUnit.sameBut a b) : { b with chainDelay := a.chainDelay, reclaim := a.reclaim } = a :=
  h

theorem CueUnit.sameBut.queue (h : CueUnit.sameBut a b) : b.queue = a.queue := by
  have e := congrArg CueUnit.queue h.eq
  exact e
theorem CueUnit.sameBut.current (h : CueUnit.sameBut a b) : b.current = a.current := by
  have e := congrArg CueUnit.current h.eq
  exact e
theorem CueUnit.sameBut.held (h : CueUnit.sameBut a b) : b.held = a.held := by
  have e := congrArg CueUnit.held h.eq
  exact e
theorem CueUnit.sameBut.slots (h : CueUnit.sameBut a b) : b.slots = a.slots := by
  have e := congrArg CueUnit.slots h.eq
  exact e
theorem CueUnit.sameBut.showStop (h : CueUnit.sameBut a b) : b.showStop = a.showStop := by
  have e := congrArg CueUnit.showStop h.eq
  exact e
theorem CueUnit.sameBut.readyWait (h : CueUnit.sameBut a b) : b.readyWait = a.readyWait := by
  have e := congrArg CueUnit.readyWait h.eq
  exact e
theorem CueUnit.sameBut.spaceWait (h : CueUnit.sameBut a b) : b.spaceWait = a.spaceWait := by
  have e := congrArg CueUnit.spaceWait h.eq
  exact e
theorem CueUnit.sameBut.owedRelease (h : CueUnit.sameBut a b) : b.owedRelease = a.owedRelease := by
  have e := congrArg CueUnit.owedRelease h.eq
  exact e
theorem CueUnit.sameBut.owed (h : CueUnit.sameBut a b) : b.owed = a.owed := by
  have e := congrArg CueUnit.owed h.eq
  exact e

end

section
variable {a b : Store}

theorem Store.sameBut.eq (h : Store.sameBut a b) : { b with waiting := a.waiting, inFlight := a.inFlight } = a := h

theorem Store.sameBut.mem (h : Store.sameBut a b) : b.mem = a.mem := by
  have e := congrArg Store.mem h.eq
  exact e
theorem Store.sameBut.working (h : Store.sameBut a b) : b.working = a.working := by
  have e := congrArg Store.working h.eq
  exact e
theorem Store.sameBut.copy (h : Store.sameBut a b) : b.copy = a.copy := by
  have e := congrArg Store.copy h.eq
  exact e
theorem Store.sameBut.aloft (h : Store.sameBut a b) : b.aloft = a.aloft := by
  have e := congrArg Store.aloft h.eq
  exact e
theorem Store.sameBut.lockRec (h : Store.sameBut a b) : b.lockRec = a.lockRec := by
  have e := congrArg Store.lockRec h.eq
  exact e
theorem Store.sameBut.flag (h : Store.sameBut a b) : b.flag = a.flag := by
  have e := congrArg Store.flag h.eq
  exact e

end

/-! ### What an event of a calm part has posted -/

/-- Since the line interface was `l0` the posts `ps` have been offered to it, and it had room for them: open it holds them, closed it has taken none (07 R143, R148). -/
structure Line.Posts (l0 l : Line) (ps : List Post) : Prop where
  state : l.state = l0.state
  enqueued : Line.Enqueued l0 l (if l0.state = .on ∨ l0.state = .joining then ps else [])
  room : l.queue.length ≤ 4 + ps.length
  ages : AgesBelow l

/-- Since the state `s` the posts `ps` have been offered to its line interface, which had room for them. -/
abbrev Posting (s t : State) (ps : List Post) : Prop := Line.Posts s.line t.line ps

theorem LineState.closed_of_not_open {a : LineState} (h : ¬(a = .on ∨ a = .joining)) :
    a = .lineOff ∨ a = .deaf ∨ a = .listenOnly := by
  cases a <;> simp_all

theorem Posting.refl {s : State} (h : Calm s) : Posting s s [] := by
  obtain ⟨_, hr, _, hq, ha⟩ := h
  exact ⟨rfl, by simpa using Line.enqueued_refl s.line hr ha, by simp only [List.length_nil]; omega, ha⟩

theorem Posting.heard {s : State} (h : Calm s) (n : Fin 48) (p : Option Post) : Posting s (heard n p s) [] := by
  obtain ⟨_, hr, _, hq, ha⟩ := h
  have hlen := Line.afterDelivery_length s.line (Line.ownRef s.line (n.val == s.strap) p)
  have hage := Line.afterDelivery_nextAge s.line (Line.ownRef s.line (n.val == s.strap) p)
  refine ⟨by simp, by simpa using Line.enqueued_heard s.line _ hr ha, ?_, fun o ho => ?_⟩
  · simp only [heard_line, List.length_nil]
    omega
  · have := ha o (Line.afterDelivery_sub _ _ o ho)
    simp only [heard_line]
    omega

section
variable {l0 l : Line} {ps : List Post}

theorem Line.Posts.offer (h : Line.Posts l0 l ps) (p : Post) (use : PostUse) (hn : ps.length < 4) :
    Line.Posts l0 (Line.offer l p use) (ps ++ [p]) := by
  have hroom := h.room
  have he := h.enqueued
  by_cases ho : l0.state = .on ∨ l0.state = .joining
  · have hopen : l.state = .on ∨ l.state = .joining := by rw [h.state]; exact ho
    rw [if_pos ho] at he
    refine ⟨by simp [h.state], by rw [if_pos ho]; exact he.offer p use hopen (by omega), ?_, ?_⟩
    all_goals rw [Line.offer_room _ _ _ hopen (by simp only [Config.maxPosts]; omega)]
    · simp only [List.length_append, List.length_singleton]
      omega
    · intro o hm
      rcases List.mem_append.mp hm with hm | hm
      · exact Nat.lt_succ_of_lt (h.ages o hm)
      · rw [List.mem_singleton] at hm
        subst hm
        exact Nat.lt_succ_self _
  · rw [Line.offer_closed _ _ _ (by rw [h.state]; exact LineState.closed_of_not_open ho)]
    refine ⟨h.state, by rw [if_neg ho] at he ⊢; exact he, ?_, h.ages⟩
    simp only [List.length_append, List.length_singleton]
    omega

theorem Line.Posts.presence (h : Line.Posts l0 l ps) : Line.Posts l0 (Line.requestPresence l) ps := by
  refine ⟨by simp [h.state], h.enqueued.presence, by simpa using h.room, fun o ho => ?_⟩
  rw [Line.requestPresence_queue] at ho
  exact (h.ages o ho).trans_le (Line.requestPresence_nextAge l)

theorem Line.Posts.entering (h : Line.Posts l0 l ps) (a b : AxisState) : Line.Posts l0 (lineEntering a b l) ps := by
  unfold lineEntering
  split
  · exact h
  · exact h.presence

theorem Line.Posts.withdraw (h : Line.Posts l0 l ps) (f : OutPost → Bool)
    (hf : ∀ o ∈ l.queue, l0.nextAge ≤ o.age → f o = false) : Line.Posts l0 (Line.withdraw l f) ps :=
  ⟨by simp [h.state], h.enqueued.withdraw f hf, (Line.withdraw_length l f).trans h.room,
    fun o ho => h.ages o (List.mem_of_mem_filter ho)⟩

/-- A withdrawal that spares the posts `ps` takes only older posts. -/
theorem Line.Posts.withdraw_of (h : Line.Posts l0 l ps) (f : OutPost → Bool) (hf : ∀ o : OutPost, o.post ∈ ps → f o = false) :
    Line.Posts l0 (Line.withdraw l f) ps := by
  refine h.withdraw f ?_
  obtain ⟨⟨q, new, hq, hold, _, hps⟩, _, _⟩ := h.enqueued
  intro o ho hage
  rw [hq] at ho
  rcases List.mem_append.mp ho with ho | ho
  · have := hold o ho
    omega
  · have hm : o.post ∈ new.map (·.post) := List.mem_map_of_mem ho
    rw [hps] at hm
    refine hf o ?_
    split at hm
    · exact hm
    · exact absurd hm List.not_mem_nil

theorem Line.Posts.withdraw_nil (h : Line.Posts l0 l []) (f : OutPost → Bool) :
    Line.Posts l0 (Line.withdraw l f) [] := h.withdraw_of f (by simp)

end

/-! The posts of a drop, a cut, a flush, a start and a completion. -/

/-- The CUT of a drop and the RELEASE of space the set never used (03 R65). -/
def dropPosts (c : CurrentCue) (r : CutReason) (w : Bool) (s : State) : List Post :=
  (if w then [.cut s.flyer c.segment c.reps 0 r.code] else [])
    ++ if givesBack s c then [.release c.runKey] else []

/-- The CUT of a cut (03 R72). -/
def cutPost (c : CurrentCue) (r : CutReason) (s : State) : Post :=
  .cut s.flyer c.segment s.engine.remaining s.engine.stepIndex r.code

/-- The NOTICE of a flush (03 R67). -/
def flushPosts (s : State) : List Post :=
  if s.cue.queue.length = 0 then [] else [.notice ⟨NoticeCode.flushed.code, s.strap, s.flyer, none, s.cue.queue.length⟩]

/-- The RELEASE of another held claim at a start (03 R59). -/
def startPosts (c : CurrentCue) (s : State) : List Post :=
  match s.cue.held with
  | some h => if s.isLead && h.key != c.runKey then [.release h.key] else []
  | none => []

/-- DONE, and a lead's RELEASE after a landing (03 R71). -/
def donePosts (c : CurrentCue) (s : State) : List Post :=
  .done s.flyer c.segment c.reps :: if c.landing && s.isLead then [.release c.runKey] else []

theorem dropPosts_length (c : CurrentCue) (r : CutReason) (w : Bool) (s : State) : (dropPosts c r w s).length ≤ 2 := by
  unfold dropPosts
  split <;> split <;> simp

theorem flushPosts_length (s : State) : (flushPosts s).length ≤ 1 := by
  unfold flushPosts
  split <;> simp

section
variable {l0 : Line} {s : State} {ps : List Post}

theorem Line.Posts.dropping (h : Line.Posts l0 s.line ps) (c : CurrentCue) (r : CutReason) (w : Bool)
    (hps : ∀ o : OutPost, o.post ∈ ps → postOfCue c (r == .space) o = false) (hn : ps.length ≤ 2) :
    Line.Posts l0 (lineDropping c r w s) (ps ++ dropPosts c r w s) := by
  have h1 := (h.entering s.axis.state (originState s.axis)).withdraw_of (postOfCue c (r == .space)) hps
  have h2 : Line.Posts l0 (if w then Line.offer
      (Line.withdraw (lineEntering s.axis.state (originState s.axis) s.line) (postOfCue c (r == .space)))
      (.cut s.flyer c.segment c.reps 0 r.code) .plain
      else Line.withdraw (lineEntering s.axis.state (originState s.axis) s.line) (postOfCue c (r == .space)))
      (ps ++ if w then [.cut s.flyer c.segment c.reps 0 r.code] else []) := by
    cases w
    · simpa using h1
    · exact h1.offer (.cut s.flyer c.segment c.reps 0 r.code) .plain (by omega)
  unfold lineDropping lineGivingBack dropPosts
  by_cases hg : givesBack s c
  · rw [if_pos hg, if_pos hg, ← List.append_assoc]
    refine h2.offer _ .plain ?_
    cases w <;> simp <;> omega
  · rw [if_neg hg, if_neg hg, List.append_nil]
    exact h2

theorem Line.Posts.cutting (h : Line.Posts l0 s.line ps) (c : CurrentCue) (r : CutReason) (b : AxisState)
    (hn : ps.length < 4) : Line.Posts l0 (lineCutting c r s b) (ps ++ [cutPost c r s]) :=
  (h.entering s.axis.state b).offer _ .plain hn

theorem Line.Posts.flushing (h : Line.Posts l0 s.line ps) (hn : ps.length < 4) :
    Line.Posts l0 (lineFlushing s) (ps ++ flushPosts s) := by
  unfold lineFlushing flushPosts
  split
  · simpa using h
  · exact h.offer _ .plain hn

theorem Line.Posts.starting (h : Line.Posts l0 s.line []) (c : CurrentCue) :
    Line.Posts l0 (lineStarting c s) (startPosts c s) := by
  have h1 := (h.withdraw_nil (postOfWait c)).entering s.axis.state .flying
  unfold lineStarting startPosts
  cases s.cue.held with
  | none => exact h1
  | some k =>
    simp only
    split
    · exact h1.offer _ .plain (by simp)
    · exact h1

theorem Line.Posts.completing (h : Line.Posts l0 s.line ps) (c : CurrentCue) (hn : ps.length < 3) :
    Line.Posts l0 (lineCompleting c s) (ps ++ donePosts c s) := by
  have h1 := (h.offer (.done s.flyer c.segment c.reps) .plain (by omega)).entering s.axis.state (s.restByHaul .poised)
  unfold lineCompleting donePosts
  simp only
  split
  · simpa using h1.offer (.release c.runKey) .plain (by simp; omega)
  · exact h1

end

section
variable {s t : State} {l : Line} {ps : List Post}

theorem Posting.congr (h : Posting s t ps) {u : State} (hl : u.line = t.line) : Posting s u ps := by
  unfold Posting
  rw [hl]
  exact h

theorem Posting.withReg (h : Posting s t ps) (v : AirRegister) : Posting s (t.withReg v) ps := h
theorem Posting.withSync (h : Posting s t ps) (v : SyncUnit) : Posting s (t.withSync v) ps := h
theorem Posting.withCue (h : Posting s t ps) (v : CueUnit) : Posting s (t.withCue v) ps := h
theorem Posting.withEngine (h : Posting s t ps) (v : Engine) : Posting s (t.withEngine v) ps := h
theorem Posting.withAxis (h : Posting s t ps) (v : Axis) : Posting s (t.withAxis v) ps := h
theorem Posting.withRoster (h : Posting s t ps) (v : Roster) : Posting s (t.withRoster v) ps := h
theorem Posting.withStore (h : Posting s t ps) (v : Store) : Posting s (t.withStore v) ps := h
theorem Posting.withLock (h : Posting s t ps) (v : LockUnit) : Posting s (t.withLock v) ps := h

theorem Posting.post (h : Posting s t ps) (p : Post) (hn : ps.length < 4) : Posting s (t.post p) (ps ++ [p]) :=
  h.offer p .plain hn

theorem Posting.postFor (h : Posting s t ps) (use : PostUse) (p : Post) (hn : ps.length < 4) :
    Posting s (t.postFor use p) (ps ++ [p]) := h.offer p use hn

theorem Posting.notice (h : Posting s t ps) (c : NoticeCode) (n : Nat) (g : Option Nat) (d : Nat)
    (hn : ps.length < 4) : Posting s (t.notice c n g d) (ps ++ [.notice ⟨c.code, n, t.flyer, g, d⟩]) :=
  h.offer _ .plain hn

theorem Posting.askPresence (h : Posting s t ps) : Posting s t.askPresence ps := h.presence

theorem Posting.of_line (h : Line.Posts s.line l ps) {u : State} (hl : u.line = l) : Posting s u ps := by
  subst hl
  exact h

theorem Posting.enterAxis (h : Posting s t ps) (a : AxisState) : Posting s (t.enterAxis a) ps :=
  .of_line (h.entering t.axis.state a) (by simp)

/-- A drop after the posts `ps`, none of which it withdraws. -/
theorem Posting.dropArmed_after (h : Posting s t ps) (c : CurrentCue) (r : CutReason) (w : Bool)
    (hps : ∀ o : OutPost, o.post ∈ ps → postOfCue c (r == .space) o = false) (hn : ps.length ≤ 2) :
    Posting s (dropArmed c r w t) (ps ++ dropPosts c r w t) :=
  .of_line (h.dropping c r w hps hn) (by simp [dropArmed_eq])

theorem Posting.dropArmed (h : Posting s t []) (c : CurrentCue) (r : CutReason) (w : Bool) :
    Posting s (dropArmed c r w t) (dropPosts c r w t) := h.dropArmed_after c r w (by simp) (by simp)

theorem Posting.flush (h : Posting s t ps) (hn : ps.length < 4) : Posting s (flush t) (ps ++ flushPosts t) :=
  .of_line (h.flushing hn) (by simp [flush_eq])

theorem Posting.startRun (h : Posting s t []) (c : CurrentCue) : Posting s (startRun c t) (startPosts c t) :=
  .of_line (h.starting c) (by simp)

theorem Posting.cutRunning (h : Posting s t ps) (c : CurrentCue) (r : CutReason) (hn : ps.length < 4) :
    Posting s (cutRunning c r t) (ps ++ [cutPost c r t]) := by
  by_cases hr : r = .fault ∨ t.axis.state ≠ .flying
  · exact .of_line (h.cutting c r t.axis.state hn) (by simp [cutRunning_other c hr])
  · push Not at hr
    exact .of_line (h.cutting c r .stopping hn) (by simp [cutRunning_flying c hr.1 hr.2])

theorem Posting.completeRun (h : Posting s t ps) {c : CurrentCue} (hc : t.cue.current = some c)
    (hp : c.phase = .running) (hn : ps.length < 3) : Posting s (completeRun t) (ps ++ donePosts c t) :=
  .of_line (h.completing c hn) (by simp [completeRun_eq hc hp])

theorem Line.Posts.quiet {l0 l : Line} (h : Line.Posts l0 l ps) : l.reports = [] := h.enqueued.quiet

theorem Posting.quiet (h : Posting s t ps) : t.line.reports = [] := h.enqueued.quiet

theorem Posting.newPosts (h : Posting s t ps) (hs : s.line.state = .on) : newPosts s t = ps := by
  have he := h.enqueued
  rw [if_pos (.inl hs)] at he
  exact newPosts_of_enqueued s t ps he

theorem Posting.posted (h : Posting s t ps) : posted s t ps := by
  refine ⟨h.newPosts, fun hs => ?_⟩
  have he := h.enqueued
  rw [if_neg (by simp [hs])] at he
  exact newPosts_of_enqueued s t [] he

theorem Posting.also (h : Posting s t ps) {p : Post} (hp : p ∈ ps) : alsoPosted s t p :=
  ⟨fun hs => by rw [h.newPosts hs]; exact hp, h.posted.2⟩

theorem Posting.finish (h : Posting s t ps) : Posting s (finish t) ps := h.congr (finish_line t h.quiet)

end

/-! ### The end of an event -/

theorem FrameBut.finish {bs : List Block} {s u : State} (h : FrameBut bs s u) (hr : u.line.reports = []) :
    FrameBut bs s (finish u) :=
  h.chain (finish_frame u hr) (List.Subset.refl bs) (by simp)

theorem Receives.calm {s : State} (h : Receives s) : Calm s := h.1

theorem event_calm (act : State → State) {s : State} (h : Calm s) : event act s = finish (act s) :=
  event_running act s h.1

section
variable {u : State} (h : u.line.reports = [])
include h

theorem finish_queue : (finish u).cue.queue = u.cue.queue := (finish_cue u h).queue
theorem finish_current : (finish u).cue.current = u.cue.current := (finish_cue u h).current
theorem finish_held : (finish u).cue.held = u.cue.held := (finish_cue u h).held
theorem finish_slots : (finish u).cue.slots = u.cue.slots := (finish_cue u h).slots
theorem finish_showStop : (finish u).cue.showStop = u.cue.showStop := (finish_cue u h).showStop
theorem finish_readyWait : (finish u).cue.readyWait = u.cue.readyWait := (finish_cue u h).readyWait
theorem finish_spaceWait : (finish u).cue.spaceWait = u.cue.spaceWait := (finish_cue u h).spaceWait
theorem finish_owedRelease : (finish u).cue.owedRelease = u.cue.owedRelease := (finish_cue u h).owedRelease
theorem finish_owed : (finish u).cue.owed = u.cue.owed := (finish_cue u h).owed
theorem finish_aloft : (finish u).store.aloft = u.store.aloft := (finish_store_sameBut u h).aloft
theorem finish_lockRec : (finish u).store.lockRec = u.store.lockRec := (finish_store_sameBut u h).lockRec

end

end Sys2Proof.Machine
end

section
/-! The entry into FAULTED on the line, and the step ends of the profile engine. -/

namespace Sys2Proof.Machine

/-! ### The presence slot -/

@[simp] theorem Line.offer_slot (l : Line) (p : Post) (u : PostUse) : (Line.offer l p u).slot = l.slot := by
  unfold Line.offer
  split
  · rfl
  · rfl
  · rfl
  all_goals
    simp only
    split
    · rfl
    · split <;> rfl

@[simp] theorem Line.withdraw_slot (l : Line) (f : OutPost → Bool) : (Line.withdraw l f).slot = l.slot := rfl

/-- On an open line a PRESENCE asked for enters an empty slot with the next age. -/
theorem Line.requestPresence_empty {l : Line} (hs : l.state = .on) (h : l.slot = none) :
    Line.requestPresence l = { l with slot := some ⟨l.nextAge, none⟩, nextAge := l.nextAge + 1 } := by
  simp [Line.requestPresence, hs, h]

/-- On an open line the slot holds a PRESENCE once one has been asked for. -/
theorem Line.requestPresence_slot {l : Line} (hs : l.state = .on) : (Line.requestPresence l).slot.isSome = true := by
  unfold Line.requestPresence
  rw [hs]
  cases hl : l.slot with
  | none => rfl
  | some p =>
    simp only
    split
    · simp
    · rfl

theorem lineEntering_slot {a b : AxisState} {l : Line} (h : a ≠ b) (hs : l.state = .on) :
    (lineEntering a b l).slot.isSome = true := by
  rw [lineEntering, if_neg h]
  exact Line.requestPresence_slot hs

@[simp] theorem lineFlushing_slot (s : State) : (lineFlushing s).slot = s.line.slot := by
  unfold lineFlushing
  split <;> simp

/-! ### The entry into FAULTED -/

/-- What the end of the current cue at an entry into FAULTED posts, before a flush and the HALT. -/
theorem Posting.faultCueEnded {s t : State} {ps : List Post} (h : Posting s t ps)
    (hp : ps = [] ∨ ps.length ≤ 2 ∧ t.cue.current = none) (kinds : FaultSet) :
    ∃ qs, qs.length ≤ 2 ∧ Posting s (faultCueEnded kinds t) qs := by
  have h1 : Posting s (t.withAxis (t.axis.faulting kinds)) ps := h
  unfold Machine.faultCueEnded
  rcases cutRun_dropCue_cases .fault (t.withAxis (t.axis.faulting kinds)) with
    ⟨_, he⟩ | ⟨c, hc, _, he⟩ | ⟨c, hc, _, he⟩
  · rw [he]
    refine ⟨ps, ?_, h1⟩
    rcases hp with rfl | ⟨hp, _⟩
    · simp
    · exact hp
  · rw [State.withAxis_cue] at hc
    obtain rfl : ps = [] := hp.resolve_right (fun hn => by simp [hn.2] at hc)
    rw [he]
    exact ⟨_, dropPosts_length c .fault true _, h1.dropArmed c .fault true⟩
  · rw [State.withAxis_cue] at hc
    obtain rfl : ps = [] := hp.resolve_right (fun hn => by simp [hn.2] at hc)
    rw [he]
    exact ⟨_, by simp, h1.cutRunning c .fault (by simp)⟩

@[simp] theorem faultCueEnded_slot (kinds : FaultSet) (s : State) :
    (faultCueEnded kinds s).line.slot = s.line.slot := by
  unfold faultCueEnded
  have hx : (s.withAxis (s.axis.faulting kinds)).axis.state = .faulted := rfl
  have ho : originState (s.withAxis (s.axis.faulting kinds)).axis = .faulted := by
    unfold originState
    rw [if_neg (by rw [hx]; decide), hx]
  rcases cutRun_dropCue_cases .fault (s.withAxis (s.axis.faulting kinds)) with
    ⟨_, he⟩ | ⟨c, _, _, he⟩ | ⟨c, _, _, he⟩
  · simp [he]
  · simp only [he, dropArmed_eq, State.withAxis_line, State.withCue_line, State.withLine_line]
    simp only [lineDropping, lineGivingBack, ho, hx, lineEntering, if_true]
    split <;> simp
  · simp [he, cutRunning_other c (.inl rfl), lineCutting, lineEntering]

/-- An entry into FAULTED posts its HALT, after at most three posts of the cue unit. -/
theorem Posting.enterFaulted {s t : State} {ps : List Post} (h : Posting s t ps)
    (hp : ps = [] ∨ ps.length ≤ 2 ∧ t.cue.current = none) (kinds : FaultSet) :
    ∃ qs, Posting s (enterFaulted kinds t) (qs ++ [.halt t.flyer (faultReason kinds).code]) := by
  obtain ⟨qs, hq, h1⟩ := h.faultCueEnded hp kinds
  have hf := flushPosts_length (Machine.faultCueEnded kinds t)
  refine ⟨qs ++ flushPosts (Machine.faultCueEnded kinds t), ?_⟩
  rw [enterFaulted_eq]
  exact ((h1.flush (by omega)).post _ (by simp only [List.length_append]; omega)).askPresence

/-- An entry into FAULTED on an open line with an empty slot reports itself with its youngest post (05 R112, 07 R147). -/
theorem enterFaulted_reported {s t : State} {ps : List Post} (h : Posting s t ps)
    (hp : ps = [] ∨ ps.length ≤ 2 ∧ t.cue.current = none) (kinds : FaultSet) (hs : s.line.state = .on)
    (hl : t.line.slot = none) :
    ∃ p, (enterFaulted kinds t).line.slot = some p ∧ ∀ o ∈ (enterFaulted kinds t).line.queue, o.age < p.age := by
  obtain ⟨qs, hq, h1⟩ := h.faultCueEnded hp kinds
  have hf := flushPosts_length (Machine.faultCueEnded kinds t)
  have h2 := (h1.flush (by omega)).post (.halt t.flyer (faultReason kinds).code)
    (by simp only [List.length_append]; omega)
  have hslot : ((flush (faultCueEnded kinds t)).post (.halt t.flyer (faultReason kinds).code)).line.slot = none := by
    simp [flush_eq, hl]
  rw [enterFaulted_eq, State.askPresence_line, Line.requestPresence_empty (by rw [h2.state, hs]) hslot]
  exact ⟨_, rfl, h2.ages⟩

/-! ### Step ends of the engine (04 R82 to R90) -/

section
variable (ws : List Word) (e : Engine) {p : Play}

/-- A step ends: its count rises, and the pass has one step less. -/
def Engine.stepped : Engine := { e with stepIndex := e.stepIndex + 1, stepsLeft := e.stepsLeft - 1 }

/-- A repetition ends with its last step. -/
def Engine.repeated : Engine := { e.stepped with remaining := e.remaining - 1 }

theorem Engine.stepEnd_none (hp : e.play = none) : Engine.stepEnd ws e = e := by
  simp [Engine.stepEnd, hp]

theorem Engine.stepEnd_next (hp : e.play = some p) (h : 2 ≤ e.stepsLeft) :
    Engine.stepEnd ws e = Engine.load ws p.stepTime (Engine.nextColumn p e.stepped) := by
  have hpos : 0 < e.stepsLeft - 1 := by omega
  simp [Engine.stepEnd, hp, hpos, Engine.stepped]

theorem Engine.stepEnd_turn (hp : e.play = some p) (h : e.stepsLeft ≤ 1) (hm : p.mode = .swing)
    (hd : e.dir = .forward) : Engine.stepEnd ws e = Engine.load ws p.stepTime (Engine.turn p e.stepped) := by
  have hz : e.stepsLeft - 1 = 0 := by omega
  simp [Engine.stepEnd, hp, hz, Engine.stepped, Engine.passEnd, hm, hd]

theorem Engine.stepEnd_newPass (hp : e.play = some p) (h : e.stepsLeft ≤ 1) (hm : p.mode = .swing)
    (hd : e.dir = .back) (hr : 2 ≤ e.remaining) :
    Engine.stepEnd ws e = Engine.load ws p.stepTime (Engine.newPass p e.repeated) := by
  have hz : e.stepsLeft - 1 = 0 := by omega
  have hpos : 0 < e.remaining - 1 := by omega
  simp [Engine.stepEnd, hp, hz, Engine.repeated, Engine.stepped, Engine.passEnd, hm, hd, hpos]

theorem Engine.stepEnd_last (h : onLastStep e) : Engine.stepEnd ws e = Engine.lastStep e.repeated := by
  obtain ⟨p, hp, h1, hsw⟩ := h
  have hz : e.stepsLeft - 1 = 0 := by omega
  cases hm : p.mode with
  | swing =>
    obtain ⟨hd, hr⟩ := hsw hm
    have hrz : e.remaining - 1 = 0 := by omega
    simp [Engine.stepEnd, hp, hz, Engine.repeated, Engine.stepped, Engine.passEnd, hm, hd, hrz]
  | once | back => simp [Engine.stepEnd, hp, hz, Engine.repeated, Engine.stepped, Engine.passEnd, hm]

/-- A step end is one of five: none played, the pass's next step, a turn, a new pass, or the run's last step. -/
theorem Engine.stepEnd_cases :
    onLastStep e ∧ Engine.stepEnd ws e = Engine.lastStep e.repeated
      ∨ ¬onLastStep e ∧ (Engine.stepEnd ws e).state = e.state ∧ (Engine.stepEnd ws e).demand = e.demand
          ∧ (Engine.stepEnd ws e).planned = e.planned := by
  by_cases hl : onLastStep e
  · exact .inl ⟨hl, Engine.stepEnd_last ws e hl⟩
  refine .inr ⟨hl, ?_⟩
  cases hp : e.play with
  | none => simp [Engine.stepEnd_none ws e hp]
  | some p =>
    by_cases h : 2 ≤ e.stepsLeft
    · rw [Engine.stepEnd_next ws e hp h]
      unfold Engine.nextColumn
      split <;> simp [Engine.load, Engine.stepped, Engine.atPosition]
    · have hsw : p.mode = .swing ∧ ¬(e.dir = .back ∧ e.remaining ≤ 1) := by
        by_contra hn
        exact hl ⟨p, hp, by omega, fun hm => by_contra fun hb => hn ⟨hm, hb⟩⟩
      cases hd : e.dir with
      | forward => simp [Engine.stepEnd_turn ws e hp (by omega) hsw.1 hd, Engine.load, Engine.stepped, Engine.turn]
      | back =>
        have hr : 2 ≤ e.remaining := by
          by_contra hr
          exact hsw.2 ⟨hd, by omega⟩
        simp [Engine.stepEnd_newPass ws e hp (by omega) hsw.1 hd hr, Engine.load, Engine.repeated, Engine.stepped,
          Engine.newPass]

theorem Engine.stepEnd_demand : (Engine.stepEnd ws e).demand = e.demand := by
  rcases Engine.stepEnd_cases ws e with ⟨_, h⟩ | ⟨_, _, h, _⟩
  · rw [h]; rfl
  · exact h

theorem Engine.stepEnd_planned : (Engine.stepEnd ws e).planned = e.planned := by
  rcases Engine.stepEnd_cases ws e with ⟨_, h⟩ | ⟨_, _, _, h⟩
  · rw [h]; rfl
  · exact h

/-- A step end completes the run where the last step ends at demand 0 (04 R89, R90). -/
theorem Engine.stepEnd_completes (hs : e.state = .playing) :
    Engine.completes (Engine.stepEnd ws e) = true ↔ onLastStep e ∧ e.demand = 0 := by
  rcases Engine.stepEnd_cases ws e with ⟨hl, h⟩ | ⟨hl, h, _⟩
  · simp [h, hl, Engine.completes, Engine.lastStep, Engine.repeated, Engine.stepped]
  · simp [Engine.completes, h, hs, hl]

end

/-! ### The engine's work at a sample (04 R79) -/

/-- The engine after its work at a sample. -/
def sampledBy (s : State) : Engine := Engine.sample s.store.working.words s.conf.accelLimit s.engine

theorem sampledBy_idle {s : State} (h : s.engine.state = .idle) : sampledBy s = s.engine := by
  simp [sampledBy, Engine.sample, h]

theorem sampledBy_settling {s : State} (h : s.engine.state = .settling) : sampledBy s = sampledEngine s := by
  simp [sampledBy, Engine.sample, h, sampledEngine, sampledDemand]

theorem sampledBy_playing {s : State} (h : s.engine.state = .playing) :
    sampledBy s
      = if s.engine.stepTimer ≤ 1 then Engine.stepEnd s.store.working.words (sampledEngine s) else sampledEngine s := by
  by_cases ht : s.engine.stepTimer ≤ 1
  · have hz : s.engine.stepTimer - 1 = 0 := by omega
    rw [if_pos ht]
    simp [sampledBy, Engine.sample, h, sampledEngine, sampledDemand, hz]
  · have hz : ¬s.engine.stepTimer - 1 = 0 := by omega
    rw [if_neg ht]
    simp [sampledBy, Engine.sample, h, sampledEngine, sampledDemand, hz]

theorem sampledBy_demand {s : State} (h : s.engine.state ≠ .idle) : (sampledBy s).demand = sampledDemand s := by
  cases hs : s.engine.state with
  | idle => exact absurd hs h
  | settling => rw [sampledBy_settling hs]; rfl
  | playing =>
    rw [sampledBy_playing hs]
    split
    · exact Engine.stepEnd_demand _ _
    · rfl

theorem sampledBy_planned {s : State} (h : s.engine.state ≠ .idle) :
    (sampledBy s).planned = s.engine.planned + sampledDemand s := by
  cases hs : s.engine.state with
  | idle => exact absurd hs h
  | settling => rw [sampledBy_settling hs]; rfl
  | playing =>
    rw [sampledBy_playing hs]
    split
    · exact Engine.stepEnd_planned _ _
    · rfl

/-- The sample that brings the run to its completion (04 R89, R90). -/
theorem sampledBy_completes (s : State) : Engine.completes (sampledBy s) = true ↔ completesAtSample s := by
  unfold completesAtSample
  cases hs : s.engine.state with
  | idle => simp [sampledBy_idle hs, Engine.completes, hs]
  | settling => simp [sampledBy_settling hs, Engine.completes, sampledEngine, hs]
  | playing =>
    rw [sampledBy_playing hs]
    have hstate : (sampledEngine s).state = .playing := hs
    by_cases ht : s.engine.stepTimer ≤ 1
    · rw [if_pos ht, Engine.stepEnd_completes _ _ hstate]
      have hlast : onLastStep (sampledEngine s) ↔ onLastStep s.engine := Iff.rfl
      have hd : (sampledEngine s).demand = sampledDemand s := rfl
      simp [hlast, hd, ht, and_comm]
    · simp [Engine.completes, hstate, ht]

end Sys2Proof.Machine
end

section
/-! The step, the machine at reset, the held part, and the slew. -/

namespace Sys2Proof.Machine

/-- Every command but the start and the restart line is an event, or the delivery of a post. -/
theorem exec_event_or_deliver (i : Instr) :
    (∃ a b c, i = .startSequence a b c) ∨ i = .restartAssert
      ∨ (i.delivered = none ∧ (∀ n raw, i ≠ .unfittingPost n raw) ∧ ∃ act, ∀ s, exec i s = .next (event act s))
      ∨ ∃ n p act, ∀ s, exec i s = .next (deliver n p act s) := by
  cases i
  case startSequence a b c => exact .inl ⟨a, b, c, rfl⟩
  case restartAssert => exact .inr (.inl rfl)
  case axisSample | stepEnd | brakeConfirmationExpiry | postBegin | postSpoiled | lapse | presenceTimerExpiry
    | lineOffTimerExpiry | joinSilenceExpiry | aloneWindowExpiry | attemptTimerExpiry | retryTimerExpiry
    | readyWaitExpiry | spaceWaitExpiry | chainDelayExpiry | takeCue | resync | reClaim | swapBegin
    | recordWriteCompletion | swapFlagWriteCompletion | bankCopySliceCompletion | loadCommitCompletion
    | verifySliceCompletion | lineIdleSeen =>
    exact .inr (.inr (.inl ⟨rfl, by simp, _, fun _ => rfl⟩))
  all_goals exact .inr (.inr (.inr ⟨_, _, _, fun _ => rfl⟩))

/-- A held part takes no command but the start and the restart line (11 R185). -/
theorem exec_held {i : Instr} {s : State} (hs : s.power = .held) (h1 : ∀ a b c, i ≠ .startSequence a b c)
    (h2 : i ≠ .restartAssert) : exec i s = .next s := by
  rcases exec_event_or_deliver i with ⟨a, b, c, h⟩ | h | ⟨_, _, act, h⟩ | ⟨n, p, act, h⟩
  · exact absurd h (h1 a b c)
  · exact absurd h h2
  · rw [h, event_held act s hs]
  · rw [h, deliver_held n p act s hs]

theorem Roster.start_entry {n : Nat} (h : n < 48) : Roster.start.entry n = RosterEntry.absent := by
  rw [Roster.entry, Roster.start, Vector.toList_replicate, List.getD_eq_getElem?_getD, List.getElem?_replicate,
    if_pos h, Option.getD_some]

/-- A part held at rest keeps every law, whatever its program memory. -/
theorem axisLaws_held (m : Memory) (n : Nat) (q : List Instr) : AxisLaws (State.held m n q) where
  armed := by simp [State.held, Axis.start, currentIs, CueUnit.start]
  flying := by simp [State.held, Axis.start, currentIs, CueUnit.start]
  engine := by simp [State.held, Axis.start, Engine.start]
  origin := by simp [State.held, Axis.start]
  faulted := by simp [State.held, Axis.start, noFaults, FaultSet.isEmpty]
  brake _ _ _ := ⟨rfl, rfl⟩
  lockKept := by simp [State.held, LockUnit.start]
  locked := by simp [State.held, Axis.start]
  showStop := by simp [State.held, CueUnit.start]

theorem registerLaws_held (m : Memory) (n : Nat) (q : List Instr) : RegisterLaws (State.held m n q) where
  register := by simp [State.held, Axis.start]
  runKey := by simp [State.held, Axis.start]
  syncing := by simp [State.held, SyncUnit.start]
  attempt := by simp [State.held, SyncUnit.start]
  resting := by simp [State.held, SyncUnit.start]

/-- A store at its start value has nothing at its memory port. -/
theorem portLaws_start (m : Memory) : PortLaws (Store.start m) where
  oneAloft := by simp [Store.start, MemOp.isAloft]
  oneLock := by simp [Store.start, MemOp.isLock]
  oneFlag := by simp [Store.start, MemOp.isFlag]
  oneSlice := by simp [Store.start, MemOp.isCopySlice]
  flagValue := by simp [Store.start]
  swapping := by simp [Store.start, MemOp.isFlag]
  slices := by simp [Store.start, MemOp.isCopySlice]

theorem recordLaws_held (m : Memory) (n : Nat) (q : List Instr) : RecordLaws (State.held m n q) where
  port := portLaws_start m
  copy := rfl
  parked _ := rfl
  lockedClear _ := rfl
  swapAtRest := by simp [State.held, Store.start]
  lockAsked := by simp [State.held, Store.start]
  lockWrite := by simp [State.held, Store.start]
  aloftWrite := by simp [State.held, Store.start]
  locking := by simp [State.held, Store.start]
  order := by simp [State.held, Store.start]

theorem queuesBounded_held (m : Memory) (n : Nat) (q : List Instr) : QueuesBounded (State.held m n q) :=
  ⟨Nat.zero_le 8, fun _ h => absurd h List.not_mem_nil, List.Pairwise.nil, Nat.zero_le 8, Nat.zero_le 4, Nat.zero_le 8⟩

theorem tableBounded_held (m : Memory) (n : Nat) (q : List Instr) : TableBounded (State.held m n q) :=
  ⟨Nat.zero_le 24, fun h => absurd (show Phase.idle = .copying from h) (by simp)⟩

theorem slotsFit_held (m : Memory) (n : Nat) (q : List Instr) : SlotsFit (State.held m n q) := rfl

/-- The slew within its limit (04 R80). -/
theorem slew_within {d g : Int} {a : Nat} (h : |g - d| ≤ (a : Int)) : slew d g a = g := by
  rw [Int.abs_eq_natAbs] at h
  exact if_pos (by omega)

/-- The slew beyond its limit moves by it, towards the goal (04 R80). -/
theorem slew_beyond {d g : Int} {a : Nat} (h : (a : Int) < |g - d|) :
    slew d g a = if d < g then d + a else d - a := by
  rw [Int.abs_eq_natAbs] at h
  exact if_neg (by omega)

end Sys2Proof.Machine

open Sys2Proof Sys2Proof.Machine

/-- Settles O1: the step is defined by its queue's front. -/
theorem stepTakesFront : Obligations.StepTakesFront := by
  intro c rest s
  rfl

/-- Settles O2: the start values, and the laws of a part held at rest. -/
theorem resetState : Obligations.ResetState :=
  ⟨⟨rfl, rfl, rfl, rfl, rfl, rfl, rfl, rfl, rfl, rfl, rfl, rfl, rfl, fun _ => Roster.start_entry, rfl, rfl, rfl, rfl,
    rfl, rfl, rfl⟩,
   rfl, queuesBounded_held _ _ _, tableBounded_held _ _ _, slotsFit_held _ _ _, axisLaws_held _ _ _,
   registerLaws_held _ _ _, recordLaws_held _ _ _⟩

/-- Settles O3: held, an event and a delivery both leave the part; still, a delivery does. -/
theorem stillPartsTakeNothing : Obligations.StillPartsTakeNothing := by
  refine ⟨fun i s hs => ?_, fun i s hs hl hd => ?_⟩
  · cases i
    case startSequence | restartAssert => trivial
    all_goals exact exec_held hs (by simp) (by simp)
  · rcases exec_event_or_deliver i with ⟨a, b, c, h⟩ | h | ⟨hn, hu, _⟩ | ⟨n, p, act, h⟩
    · subst h
      simp [Instr.delivered] at hd
    · subst h
      simp [Instr.delivered] at hd
    · rcases hd with ⟨d, hd⟩ | ⟨n, raw, hd⟩
      · rw [hn] at hd
        exact absurd hd (by simp)
      · exact absurd hd (hu n raw)
    · rw [h, deliver_silent n p act s hs hl]

/-- Settles O5: a write cut short writes only the words it addresses. -/
theorem restartHolds : Obligations.RestartHolds := by
  intro s hm
  refine ⟨hold s, rfl, rfl, fun a ha => ?_⟩
  refine Memory.read_writeAll_other _ _ a hm (fun c hc => ?_)
  obtain ⟨b, hb, rfl⟩ := List.mem_map.mp hc
  exact fun hba => ha (hba ▸ hb)

/-- Settles O12: within the limit the goal is reached; beyond it the demand moves by the limit. -/
theorem slewRule : Obligations.SlewRule := by
  intro d g a
  refine ⟨slew_within, fun h => ?_⟩
  rw [slew_beyond h]
  simp only [Int.abs_eq_natAbs] at h ⊢
  split <;> omega
end

section
/-! The sample of the axis loop and the step end. -/

namespace Sys2Proof.Machine

/-! ### The stages of a sample -/

/-- The inputs are read (05 R97). -/
def inputsRead (i : WinchInputs) (s : State) : State := s.withAxis (readInputs i s.axis)

/-- The state after the first three stages of a sample, which the fault tests see (05 R98). -/
def sampleWork (i : WinchInputs) (s : State) : State := stateStage (engineStage (inputsRead i s))

theorem sample_eq (i : WinchInputs) {s : State} (h : s.axis.state ≠ .unconfigured) :
    sample i s = keepLimits i (detect (sampleFaults (sampleWork i s)) (sampleWork i s)) := if_neg h

theorem detect_nothing {kinds : FaultSet} (h : FaultSet.isEmpty kinds = true) (s : State) : detect kinds s = s := by
  simp [detect, h]

theorem detect_enters {kinds : FaultSet} (h : FaultSet.isEmpty kinds = false) {s : State}
    (hf : s.axis.state ≠ .faulted) (hu : s.axis.state ≠ .unconfigured) : detect kinds s = enterFaulted kinds s := by
  simp [detect, h, hf, hu]

/-- The event of a sample that finds no fault. -/
theorem exec_sample_clear {i : WinchInputs} {s : State} (hs : Calm s) (h : s.axis.state ≠ .unconfigured)
    (hk : FaultSet.isEmpty (sampleFaults (sampleWork i s)) = true) :
    exec (.axisSample i) s = .next (finish (keepLimits i (sampleWork i s))) := by
  have he : exec (.axisSample i) s = .next (event (sample i) s) := rfl
  rw [he, event_calm _ hs, sample_eq i h, detect_nothing hk]

theorem engineStage_working {s : State} (h : ¬completesAtSample s) : engineStage s = s.withEngine (sampledBy s) := by
  have hc : ¬Engine.completes (sampledBy s) = true := fun hc => h ((sampledBy_completes s).mp hc)
  exact if_neg hc

theorem engineStage_completing {s : State} (h : completesAtSample s) :
    engineStage s = completeRun (s.withEngine (sampledBy s)) :=
  if_pos ((sampledBy_completes s).mpr h)

theorem completesAtSample_inputsRead (i : WinchInputs) (s : State) :
    completesAtSample (inputsRead i s) ↔ completesAtSample s := Iff.rfl

theorem not_completes_of_idle {s : State} (h : s.engine.state = .idle) : ¬completesAtSample s := by
  simp [completesAtSample, h]

theorem engineStage_idle {s : State} (h : s.engine.state = .idle) : engineStage s = s := by
  rw [engineStage_working (not_completes_of_idle h), sampledBy_idle h]
  rfl

/-- With the engine idle a sample is the work of the axis state. -/
theorem sampleWork_idle (i : WinchInputs) {s : State} (h : s.engine.state = .idle) :
    sampleWork i s = stateStage (inputsRead i s) := by
  rw [sampleWork, engineStage_idle (s := inputsRead i s) h]

/-- In the states in which the axis stands with the brake set the demand is held at 0 (04 R96). -/
theorem stateStage_standing {s : State} (h : s.axis.state ≠ .flying) (h1 : s.axis.state ≠ .stopping)
    (h2 : s.axis.state ≠ .locked) : stateStage s = s.withAxis { s.axis with demand := 0 } := by
  unfold stateStage
  split <;> simp_all

theorem stateStage_flying {s : State} (h : s.axis.state = .flying) :
    stateStage s = s.withAxis { s.axis with demand := s.engine.demand } := by
  simp [stateStage, h]

theorem stateStage_stopping {s : State} (h : s.axis.state = .stopping) : stateStage s = stoppingStage s := by
  simp [stateStage, h]

theorem stateStage_locked {s : State} (h : s.axis.state = .locked) : stateStage s = jogStage s := by
  simp [stateStage, h]

/-- In FLYING, short of the completion, the engine works and its demand is driven. -/
theorem sampleWork_flying (i : WinchInputs) {s : State} (hf : s.axis.state = .flying) (hc : ¬completesAtSample s) :
    sampleWork i s
      = (s.withEngine (sampledBy s)).withAxis { readInputs i s.axis with demand := (sampledBy s).demand } := by
  rw [sampleWork, engineStage_working ((completesAtSample_inputsRead i s).not.mpr hc), stateStage_flying (s := (inputsRead i s).withEngine _) hf]
  rfl

/-- Standing with the engine idle, a sample takes the inputs and holds the demand at 0. -/
theorem sampleWork_standing (i : WinchInputs) {s : State} (he : s.engine.state = .idle)
    (h : s.axis.state ≠ .flying) (h1 : s.axis.state ≠ .stopping) (h2 : s.axis.state ≠ .locked) :
    sampleWork i s = s.withAxis { readInputs i s.axis with demand := 0 } := by
  rw [sampleWork_idle i he, stateStage_standing (s := inputsRead i s) h h1 h2]
  rfl

/-! ### The fault tests of a sample (05 R105 to R110) -/

/-- The tests that every sample makes, whatever the axis does. -/
def standingFaults (s : State) : FaultSet :=
  { estop := s.axis.inputs.estop, drive := s.axis.inputs.driveFault
    overload := decide ((s.conf.overloadThreshold : Int) < s.axis.inputs.load), brake := brakeTest s.axis
    follow := false, slack := false, limit := false, deaf := false }

theorem sampleFaults_standing {s : State} (h : AxisState.moving s.axis.state = false) :
    sampleFaults s = standingFaults s := by
  simp [sampleFaults, standingFaults, h]

theorem standingFaults_empty {s : State} (h1 : s.axis.inputs.estop = false) (h2 : s.axis.inputs.driveFault = false)
    (h3 : s.axis.inputs.load ≤ (s.conf.overloadThreshold : Int)) (h4 : brakeTest s.axis = false) :
    FaultSet.isEmpty (standingFaults s) = true := by
  simp [FaultSet.isEmpty, standingFaults, h1, h2, h4, not_lt.mpr h3]

/-- The sample of a moving line that finds no fault. -/
theorem sampleFaults_empty {s : State} (h1 : s.axis.inputs.estop = false) (h2 : s.axis.inputs.driveFault = false)
    (h3 : s.axis.inputs.load ≤ (s.conf.overloadThreshold : Int)) (h4 : brakeTest s.axis = false)
    (h5 : followTest s = false) (h6 : (s.conf.slackThreshold : Int) ≤ s.axis.inputs.load) (h7 : limitTest s = false) :
    FaultSet.isEmpty (sampleFaults s) = true := by
  simp [FaultSet.isEmpty, sampleFaults, h1, h2, h4, h5, h7, not_lt.mpr h3, not_lt.mpr h6]

theorem brakeTest_false {x : Axis} (h : x.brakeTimer ≠ some 0 ∨ x.inputs.feedback = x.brake) :
    brakeTest x = false := by
  rcases h with h | h <;> simp [brakeTest, h]

theorem followTest_false {s : State}
    (h : |followPlanned s - s.axis.inputs.haul * 1000000| ≤ (s.conf.followLimit : Int) * 1000000) :
    followTest s = false := by
  simp [followTest, not_lt.mpr h]

theorem limitTest_false {i : WinchInputs} {s : State} (hi : s.axis.inputs = i)
    (hl : ∀ u l, s.axis.limits = some (u, l) → (i.upper = true → u = true) ∧ (i.lower = true → l = true))
    (hm : i.haul ≤ (s.conf.maxHaul : Int)) : limitTest s = false := by
  subst hi
  cases hs : s.axis.limits with
  | none => simp [limitTest, hs, not_lt.mpr hm]
  | some p =>
    obtain ⟨hu, hl⟩ := hl p.1 p.2 hs
    simpa [limitTest, hs, not_lt.mpr hm] using And.intro hu hl

theorem sampleFaults_limit {i : WinchInputs} {s : State} (hm : AxisState.moving s.axis.state = true)
    (hi : s.axis.inputs = i)
    (h : (s.conf.maxHaul : Int) < i.haul
      ∨ ∃ u l, s.axis.limits = some (u, l) ∧ (i.upper = true ∧ u = false ∨ i.lower = true ∧ l = false)) :
    (sampleFaults s).limit = true := by
  subst hi
  rcases h with h | ⟨u, l, hl, ⟨h, hu⟩ | ⟨h, hu⟩⟩
  · simp [sampleFaults, hm, limitTest, h]
  · simp [sampleFaults, hm, limitTest, hl, h, hu]
  · simp [sampleFaults, hm, limitTest, hl, h, hu]

/-! ### Kinds found in FAULTED (05 R113) -/

/-- Kinds are added to the latch set, and a PRESENCE reports the change. -/
def addKinds (kinds : FaultSet) (s : State) : State :=
  (s.withAxis { s.axis with faults := FaultSet.union s.axis.faults kinds }).withLine
    (if FaultSet.union s.axis.faults kinds = s.axis.faults then s.line else Line.requestPresence s.line)

@[simp] theorem addKinds_axis (kinds : FaultSet) (s : State) :
    (addKinds kinds s).axis = { s.axis with faults := FaultSet.union s.axis.faults kinds } := rfl

theorem addKinds_line (kinds : FaultSet) (s : State) :
    (addKinds kinds s).line
      = if FaultSet.union s.axis.faults kinds = s.axis.faults then s.line else Line.requestPresence s.line := rfl

@[simp] theorem addKinds_queue (kinds : FaultSet) (s : State) : (addKinds kinds s).line.queue = s.line.queue := by
  rw [addKinds_line]
  split <;> simp

@[simp] theorem addKinds_reports (kinds : FaultSet) (s : State) :
    (addKinds kinds s).line.reports = s.line.reports := by
  rw [addKinds_line]
  split <;> simp

theorem frame_addKinds (kinds : FaultSet) (s : State) : FrameBut [.axis, .line] s (addKinds kinds s) :=
  (frame_withAxis s _).chain (frame_withLine _ _) (by decide) (by decide)

theorem FaultSet.union_empty (f : FaultSet) {g : FaultSet} (h : FaultSet.isEmpty g = true) :
    FaultSet.union f g = f := by
  cases f
  simp_all [FaultSet.isEmpty, FaultSet.union]

theorem detect_faulted (kinds : FaultSet) {s : State} (hf : s.axis.state = .faulted) :
    detect kinds s = addKinds kinds s := by
  by_cases hk : FaultSet.isEmpty kinds = true
  · rw [detect_nothing hk, addKinds, FaultSet.union_empty _ hk, if_pos rfl]
    rfl
  · have hd : detect kinds s = if FaultSet.union s.axis.faults kinds = s.axis.faults then s
        else (s.withAxis { s.axis with faults := FaultSet.union s.axis.faults kinds }).askPresence := by
      simp [detect, hk, hf]
    rw [hd, addKinds]
    split
    · rename_i hu
      rw [hu]
      rfl
    · rfl

/-- The ramp step is the slew towards 0 (05 R103). -/
theorem slew_zero (d : Int) (n : Nat) : slew d 0 n = rampStep d n := by
  unfold slew rampStep
  split <;> split <;> (try split) <;> omega

end Sys2Proof.Machine

open Sys2Proof Sys2Proof.Machine

/-- Settles O8: standing with the engine idle, no stage but the inputs and the demand acts. -/
theorem restSampleFrame : Obligations.RestSampleFrame := by
  intro i s hs hx he h1 h2 h3 h4
  have hstate : s.axis.state ≠ .flying ∧ s.axis.state ≠ .stopping ∧ s.axis.state ≠ .locked
      ∧ s.axis.state ≠ .unconfigured := by
    rcases hx with hx | hx
    · have := AxisState.atRest.ne hx
      tauto
    · simp [hx]
  obtain ⟨hf, hst, hlk, hu⟩ := hstate
  have hw := sampleWork_standing i he hf hst hlk
  have hmov : AxisState.moving s.axis.state = false := by
    unfold AxisState.moving
    split <;> simp_all
  have hk : FaultSet.isEmpty (sampleFaults (sampleWork i s)) = true := by
    rw [hw, sampleFaults_standing (by exact hmov)]
    exact standingFaults_empty h1 h2 h3 (brakeTest_false h4)
  have hq : (keepLimits i (sampleWork i s)).line.reports = [] := by
    rw [hw]
    exact hs.2.1
  refine ⟨_, exec_sample_clear hs hu hk, ?_, ?_⟩
  · rw [finish_axis _ hq, hw]
    rfl
  · refine FrameBut.finish ?_ hq
    rw [hw]
    exact (frame_withAxis s _).chain (frame_withAxis _ _) (by decide) (by decide)

/-- Settles O7: in FAULTED the kinds found are added, and the PRESENCE that reports them is all that is asked for. -/
theorem faultedSampleAddsKinds : Obligations.FaultedSampleAddsKinds := by
  intro i s ⟨hs, hon⟩ hx he
  have hw := sampleWork_standing i he (by simp [hx]) (by simp [hx]) (by simp [hx])
  have hwx : (sampleWork i s).axis.state = .faulted := by rw [hw]; exact hx
  have hk : sampleFaults (sampleWork i s)
      = ⟨i.estop, i.driveFault, decide ((s.conf.overloadThreshold : Int) < i.load),
          decide (s.axis.brakeTimer.map (· - 1) = some 0) && decide (i.feedback ≠ s.axis.brake),
          false, false, false, false⟩ := by
    rw [sampleFaults_standing (by rw [hwx]; rfl), hw]
    simp [standingFaults, brakeTest, readInputs, beq_eq_decide, bne, decide_not] <;> rfl
  rw [← hk]
  have hd := detect_faulted (sampleFaults (sampleWork i s)) hwx
  have hex : exec (.axisSample i) s
      = .next (finish (keepLimits i (detect (sampleFaults (sampleWork i s)) (sampleWork i s)))) := by
    have hev : exec (.axisSample i) s = .next (event (sample i) s) := rfl
    rw [hev, event_calm _ hs, sample_eq i (by simp [hx])]
  rw [hd] at hex
  have hl : (sampleWork i s).line = s.line := by rw [hw]; rfl
  have hq : (keepLimits i (addKinds (sampleFaults (sampleWork i s)) (sampleWork i s))).line.reports = [] := by
    simp only [keepLimits, State.withAxis_line, addKinds_reports, hl]
    exact hs.2.1
  refine ⟨_, hex, ?_⟩
  rw [finish_axis _ hq, finish_line _ hq]
  refine ⟨?_, ?_, ?_, ?_, ?_, ?_, ?_⟩
  · simp [keepLimits, hwx]
  · simp [keepLimits, hw, readInputs]
  · simp [keepLimits, hw]
  · simp [keepLimits, hw, readInputs]
  · intro hne
    simp only [keepLimits, State.withAxis_axis, addKinds_axis] at hne
    simp only [keepLimits, State.withAxis_line]
    have hf : (sampleWork i s).axis.faults = s.axis.faults := by rw [hw]; rfl
    rw [← hf] at hne
    rw [addKinds_line, if_neg hne, hl]
    exact Line.requestPresence_slot hon
  · simp only [keepLimits, State.withAxis_line, addKinds_queue, hl]
  · refine FrameBut.finish ?_ hq
    have h1 : FrameBut [.axis] s (sampleWork i s) := by
      rw [hw]
      exact frame_withAxis s _
    exact (h1.chain (ds := [.axis, .line]) (frame_addKinds _ _) (by decide) (by decide)).chain (frame_withAxis _ _) (by decide) (by decide)

end

section
/-! Samples in LOCKED and in STOPPING. -/

namespace Sys2Proof.Machine

/-! ### The jog (05 R117) -/

theorem jogDecision_up {b : Nat} {i : WinchInputs}
    (h : i.jogUp = true ∧ i.jogDown = false ∧ i.haul < (b : Int) ∧ i.upper = false) :
    jogDecision b i = (.released, 50000) := by
  obtain ⟨h1, h2, h3, h4⟩ := h
  simp [jogDecision, h1, h2, h3, h4, Config.jogDemand]

theorem jogDecision_down {b : Nat} {i : WinchInputs}
    (h : i.jogDown = true ∧ i.jogUp = false ∧ 0 < i.haul ∧ i.lower = false) :
    jogDecision b i = (.released, -50000) := by
  obtain ⟨h1, h2, h3, h4⟩ := h
  simp [jogDecision, h1, h2, h3, h4, Config.jogDemand]

theorem jogDecision_still {b : Nat} {i : WinchInputs}
    (hu : ¬(i.jogUp = true ∧ i.jogDown = false ∧ i.haul < (b : Int) ∧ i.upper = false))
    (hd : ¬(i.jogDown = true ∧ i.jogUp = false ∧ 0 < i.haul ∧ i.lower = false)) :
    jogDecision b i = (.set, 0) := by
  have hu' : (i.jogUp && !i.jogDown && decide (i.haul < (b : Int)) && !i.upper) = false := by
    by_contra hn
    exact hu (by simpa [and_assoc] using hn)
  have hd' : (i.jogDown && !i.jogUp && decide (0 < i.haul) && !i.lower) = false := by
    by_contra hn
    exact hd (by simpa [and_assoc] using hn)
  simp [jogDecision, hu', hd']

/-- The axis after the jog decision of a sample. -/
def Axis.jogged (x : Axis) (d : Brake × Int) : Axis := { Axis.command x d.1 with demand := d.2 }

@[simp] theorem Axis.jogged_state (x : Axis) (d : Brake × Int) : (x.jogged d).state = x.state :=
  Axis.command_state x d.1
@[simp] theorem Axis.jogged_faults (x : Axis) (d : Brake × Int) : (x.jogged d).faults = x.faults :=
  Axis.command_faults x d.1
@[simp] theorem Axis.jogged_inputs (x : Axis) (d : Brake × Int) : (x.jogged d).inputs = x.inputs :=
  Axis.command_inputs x d.1
@[simp] theorem Axis.jogged_brake (x : Axis) (d : Brake × Int) : (x.jogged d).brake = d.1 := Axis.command_brake x d.1
@[simp] theorem Axis.jogged_demand (x : Axis) (d : Brake × Int) : (x.jogged d).demand = d.2 := rfl

theorem Axis.jogged_timer {x : Axis} {d : Brake × Int} (h : x.brake ≠ d.1) : (x.jogged d).brakeTimer = some 200 :=
  Axis.command_timer x h

theorem Axis.jogged_timer_same {x : Axis} {d : Brake × Int} (h : x.brake = d.1) :
    (x.jogged d).brakeTimer = x.brakeTimer := by
  unfold Axis.jogged
  rw [Axis.command_same x h]

theorem sampleWork_locked (i : WinchInputs) {s : State} (hx : s.axis.state = .locked) (he : s.engine.state = .idle) :
    sampleWork i s = s.withAxis ((readInputs i s.axis).jogged (jogDecision s.conf.groundBand i)) := by
  rw [sampleWork_idle i he, stateStage_locked (s := inputsRead i s) hx]
  rfl

/-- A changed command starts the confirmation timer, so that no disagreement is found (05 R105). -/
theorem brakeTest_command {x y : Axis} (hb : y.brake = x.brake ∧ y.brakeTimer = x.brakeTimer ∨ y.brakeTimer = some 200)
    (hi : y.inputs = x.inputs) (h : x.brakeTimer ≠ some 0 ∨ x.inputs.feedback = x.brake) : brakeTest y = false := by
  refine brakeTest_false ?_
  rcases hb with ⟨h1, h2⟩ | h1
  · rw [h1, h2, hi]
    exact h
  · simp [h1]

theorem Axis.jogged_timer_cases (x : Axis) (d : Brake × Int) :
    (x.jogged d).brake = x.brake ∧ (x.jogged d).brakeTimer = x.brakeTimer ∨ (x.jogged d).brakeTimer = some 200 := by
  by_cases h : x.brake = d.1
  · exact .inl ⟨by simp [h], Axis.jogged_timer_same h⟩
  · exact .inr (Axis.jogged_timer h)

/-- A sample that finds no fault ends with the axis of its stages and the limit inputs kept. -/
theorem exec_sample_kept {i : WinchInputs} {s : State} (hs : Calm s) (h : s.axis.state ≠ .unconfigured)
    {u : State} (hw : sampleWork i s = u) (hk : FaultSet.isEmpty (sampleFaults u) = true) {bs : List Block}
    (hf : FrameBut bs s u) (hb : .axis ∈ bs) (hq : u.line.reports = []) :
    exec (.axisSample i) s = .next (finish (keepLimits i u))
      ∧ (finish (keepLimits i u)).axis = { u.axis with limits := some (i.upper, i.lower) }
      ∧ FrameBut bs s (finish (keepLimits i u)) := by
  subst hw
  refine ⟨exec_sample_clear hs h hk, finish_axis _ hq, FrameBut.finish ?_ hq⟩
  exact hf.chain (frame_withAxis _ _) (List.Subset.refl bs) (by simpa using hb)

/-! ### The stop (05 R103, R104) -/

/-- The axis after a step of the stopping ramp. -/
def Axis.ramped (x : Axis) (d : Int) : Axis :=
  if d = 0 then Axis.command { x with demand := d, ramp := x.ramp.map (· + d) } .set
  else { x with demand := d, ramp := x.ramp.map (· + d) }

theorem stoppingStage_ramp {s : State} (hb : s.axis.brake = .released) :
    stoppingStage s = s.withAxis (s.axis.ramped (rampStep s.axis.demand s.conf.stopDecel)) := by
  have h : stoppingStage s = s.withAxis
      (if slew s.axis.demand 0 s.conf.stopDecel = 0 then
        Axis.command { s.axis with
          demand := slew s.axis.demand 0 s.conf.stopDecel
          ramp := s.axis.ramp.map (· + slew s.axis.demand 0 s.conf.stopDecel) } .set
      else { s.axis with
        demand := slew s.axis.demand 0 s.conf.stopDecel
        ramp := s.axis.ramp.map (· + slew s.axis.demand 0 s.conf.stopDecel) }) := if_pos hb
  rw [h, slew_zero]
  rfl

theorem stoppingStage_wait {s : State} (hb : s.axis.brake = .set) (hi : s.axis.inputs.feedback = .released) :
    stoppingStage s = s.withAxis { s.axis with demand := 0 } :=
  (if_neg (by simp [hb])).trans (if_neg (by simp [hi]))

theorem stoppingStage_stopped {s : State} (hb : s.axis.brake = .set) (hi : s.axis.inputs.feedback = .set) :
    stoppingStage s = (s.withAxis { s.axis with demand := 0, ramp := none }).enterAxis (s.restByHaul .holding) :=
  (if_neg (by simp [hb])).trans (if_pos hi)

theorem sampleWork_ramp (i : WinchInputs) {s : State} (hx : s.axis.state = .stopping) (he : s.engine.state = .idle)
    (hb : s.axis.brake = .released) :
    sampleWork i s = s.withAxis ((readInputs i s.axis).ramped (rampStep s.axis.demand s.conf.stopDecel)) := by
  rw [sampleWork_idle i he, stateStage_stopping (s := inputsRead i s) hx, stoppingStage_ramp (s := inputsRead i s) hb]
  rfl

theorem sampleWork_wait (i : WinchInputs) {s : State} (hx : s.axis.state = .stopping) (he : s.engine.state = .idle)
    (hb : s.axis.brake = .set) (hi : i.feedback = .released) :
    sampleWork i s = s.withAxis { readInputs i s.axis with demand := 0 } := by
  rw [sampleWork_idle i he, stateStage_stopping (s := inputsRead i s) hx, stoppingStage_wait (s := inputsRead i s) hb hi]
  rfl

theorem sampleWork_stopped (i : WinchInputs) {s : State} (hx : s.axis.state = .stopping) (he : s.engine.state = .idle)
    (hb : s.axis.brake = .set) (hi : i.feedback = .set) :
    sampleWork i s
      = (s.withAxis { readInputs i s.axis with demand := 0, ramp := none }).enterAxis
          ((inputsRead i s).restByHaul .holding) := by
  rw [sampleWork_idle i he, stateStage_stopping (s := inputsRead i s) hx, stoppingStage_stopped (s := inputsRead i s) hb hi]
  rfl

section
variable (x : Axis) (d : Int)

@[simp] theorem Axis.ramped_state : (x.ramped d).state = x.state := by
  unfold Axis.ramped; split <;> simp [Axis.command_state]
@[simp] theorem Axis.ramped_inputs : (x.ramped d).inputs = x.inputs := by
  unfold Axis.ramped; split <;> simp [Axis.command_inputs]
@[simp] theorem Axis.ramped_demand : (x.ramped d).demand = d := by
  unfold Axis.ramped; split <;> simp [Axis.command_demand]
@[simp] theorem Axis.ramped_ramp : (x.ramped d).ramp = x.ramp.map (· + d) := by
  unfold Axis.ramped; split <;> simp [Axis.command_ramp]
@[simp] theorem Axis.ramped_limits : (x.ramped d).limits = x.limits := by
  unfold Axis.ramped; split <;> simp [Axis.command_limits]

end

theorem Axis.ramped_zero {x : Axis} (hb : x.brake = .released) :
    (x.ramped 0).brake = .set ∧ (x.ramped 0).brakeTimer = some 200 := by
  unfold Axis.ramped
  rw [if_pos rfl]
  exact ⟨Axis.command_brake _ _, Axis.command_timer _ (by simp [hb])⟩

theorem Axis.ramped_short {x : Axis} {d : Int} (h : d ≠ 0) :
    (x.ramped d).brake = x.brake ∧ (x.ramped d).brakeTimer = x.brakeTimer := by
  unfold Axis.ramped
  rw [if_neg h]
  exact ⟨rfl, rfl⟩

theorem restByHaul_eq (s : State) (a : AxisState) :
    s.restByHaul a = if s.axis.inputs.haul ≤ (s.conf.groundBand : Int) then .parked else a := rfl

theorem restByHaul_still (s : State) : AxisState.moving (s.restByHaul .holding) = false := by
  rw [restByHaul_eq]
  split <;> rfl

end Sys2Proof.Machine

open Sys2Proof Sys2Proof.Machine

/-- Settles O9: in LOCKED the jog decision is all that a sample's work does. -/
theorem jogDecision : Obligations.JogDecision := by
  intro i s hs hx he h1 h2 h3 h4
  have hw := sampleWork_locked i hx he
  have hk : FaultSet.isEmpty (sampleFaults
      (s.withAxis ((readInputs i s.axis).jogged (Machine.jogDecision s.conf.groundBand i)))) = true := by
    rw [sampleFaults_standing (by simp [readInputs, hx, AxisState.moving])]
    refine standingFaults_empty ?_ ?_ ?_ (brakeTest_command (Axis.jogged_timer_cases _ _) (by simp) h4)
    all_goals simpa [readInputs]
  obtain ⟨hex, hax, hfr⟩ := exec_sample_kept hs (by simp [hx]) hw hk (frame_withAxis s _) (by simp) hs.2.1
  refine ⟨_, hex, ?_, ?_, fun h => ?_, fun h => ?_, fun hu hd => ?_, fun h => ?_, hfr⟩
  all_goals rw [hax]
  · simpa [readInputs] using hx
  · simp [readInputs]
  · simp [jogDecision_up h]
  · simp [jogDecision_down h]
  · simp [jogDecision_still hu hd]
  · rw [hax] at h
    exact Axis.jogged_timer (x := readInputs i s.axis) (fun hb => h (by simpa [readInputs] using hb.symm))

/-- Settles O10: the ramp's step, the wait with the brake set, and its end. -/
theorem stoppingRampAndBrakeWait : Obligations.StoppingRampAndBrakeWait := by
  intro i s hs hx he h1 h2 h3
  refine ⟨fun hb p hp hsl hlim hmax hbt hfol => ?_, fun hb hi p hp hsl hlim hmax hbt hfol => ?_, fun hb hi => ?_⟩
  · have hw := sampleWork_ramp i hx he hb
    generalize hd : rampStep s.axis.demand s.conf.stopDecel = d at *
    have hbrake : brakeTest ((readInputs i s.axis).ramped d) = false := by
      refine brakeTest_false ?_
      by_cases hz : d = 0
      · subst hz
        exact .inl (by rw [(Axis.ramped_zero (x := readInputs i s.axis) hb).2]; simp)
      · rw [(Axis.ramped_short hz).1, (Axis.ramped_short hz).2, Axis.ramped_inputs]
        rcases hbt with hbt | hbt | hbt
        · exact .inl hbt
        · exact .inr (hbt.trans hb.symm)
        · exact absurd hbt hz
    have hk : FaultSet.isEmpty (sampleFaults (s.withAxis ((readInputs i s.axis).ramped d))) = true := by
      refine sampleFaults_empty ?_ ?_ ?_ hbrake (followTest_false ?_) ?_
        (limitTest_false (i := i) (by simp [readInputs]) (fun u l h => hlim u l (by simpa [readInputs] using h)) hmax)
      · simpa [readInputs]
      · simpa [readInputs]
      · simpa [readInputs]
      · simpa [followPlanned, readInputs, hx, hp] using hfol
      · simpa [readInputs]
    obtain ⟨hex, hax, hfr⟩ := exec_sample_kept hs (by simp [hx]) hw hk (frame_withAxis s _) (by simp) hs.2.1
    refine ⟨_, hex, ?_, ?_, ?_, fun hz => ?_, fun hz => ?_, hfr⟩
    all_goals rw [hax] at *
    · simpa [readInputs] using hx
    · simp
    · simp [readInputs, hp]
    · obtain rfl : d = 0 := by simpa using hz
      exact Axis.ramped_zero (x := readInputs i s.axis) hb
    · exact (Axis.ramped_short (x := readInputs i s.axis) (by simpa using hz)).1.trans hb
  · have hw := sampleWork_wait i hx he hb hi
    have hk : FaultSet.isEmpty (sampleFaults (s.withAxis { readInputs i s.axis with demand := 0 })) = true := by
      refine sampleFaults_empty ?_ ?_ ?_ (brakeTest_false (.inl hbt)) (followTest_false ?_) ?_
        (limitTest_false (i := i) (by simp [readInputs]) hlim hmax)
      · simpa [readInputs]
      · simpa [readInputs]
      · simpa [readInputs]
      · simpa [followPlanned, readInputs, hx, hp] using hfol
      · simpa [readInputs]
    obtain ⟨hex, hax, hfr⟩ := exec_sample_kept hs (by simp [hx]) hw hk (frame_withAxis s _) (by simp) hs.2.1
    exact ⟨_, hex, hax, hfr⟩
  · have hw := sampleWork_stopped i hx he hb hi
    have hst : ((s.withAxis { readInputs i s.axis with demand := 0, ramp := none }).enterAxis
        ((inputsRead i s).restByHaul .holding)).axis
          = { readInputs i s.axis with
              demand := 0, ramp := none, state := (inputsRead i s).restByHaul .holding } := by simp
    have hpost : Posting s ((s.withAxis { readInputs i s.axis with demand := 0, ramp := none }).enterAxis
        ((inputsRead i s).restByHaul .holding)) [] :=
      ((Posting.refl hs).withAxis _).enterAxis _
    have hk : FaultSet.isEmpty (sampleFaults ((s.withAxis { readInputs i s.axis with demand := 0, ramp := none }).enterAxis
        ((inputsRead i s).restByHaul .holding))) = true := by
      rw [sampleFaults_standing (by rw [hst]; exact restByHaul_still _)]
      refine standingFaults_empty ?_ ?_ ?_ (brakeTest_false (.inr ?_))
      all_goals rw [hst]
      · simpa [readInputs]
      · simpa [readInputs]
      · simpa [readInputs, (frame_enterAxis _ _).conf]
      · simp [readInputs, hi, hb]
    have hframe : FrameBut [.axis, .line, .store] s ((s.withAxis { readInputs i s.axis with demand := 0, ramp := none }).enterAxis
        ((inputsRead i s).restByHaul .holding)) := (frame_withAxis s _).chain (frame_enterAxis _ _) (by decide) (by decide)
    obtain ⟨hex, hax, hfr⟩ := exec_sample_kept hs (by simp [hx]) hw hk hframe (by simp) hpost.quiet
    refine ⟨_, hex, ?_, ?_, ?_, ?_, hfr⟩
    all_goals rw [hax, hst]
    · rfl
    · exact hb

end

section
/-! Samples in FLYING, the step end, and the completion of a run. -/

namespace Sys2Proof.Machine

/-! ### What a completed run leaves -/

theorem storeCompleting_target (c : CurrentCue) {v : State} (hx : v.axis.state ≠ .parked) :
    (storeCompleting c v).aloft.target
      = if v.axis.inputs.haul ≤ (v.conf.groundBand : Int) then .clear
        else if c.landing = true ∧ v.store.aloft.target ≠ .clear then .set v.flyer 0xFFFF 0xFFFF 0xFFFF 0xFFFF
        else v.store.aloft.target := by
  unfold storeCompleting
  rw [restByHaul_eq]
  by_cases hh : v.axis.inputs.haul ≤ (v.conf.groundBand : Int)
  · rw [if_pos hh, if_pos hh, storeEntering_parked v.store hx]
    cases c.landing <;> rfl
  · rw [if_neg hh, if_neg hh, storeEntering_of_ne _ v.store (by simp)]
    cases c.landing
    · simp
    · cases ht : v.store.aloft.target <;> simp [Store.aimed, AloftRecord.ofClaim, ht]

theorem lineCompleting_slot (c : CurrentCue) {v : State} (hx : v.axis.state = .flying) (hl : v.line.state = .on) :
    (lineCompleting c v).slot.isSome = true := by
  have hne : v.axis.state ≠ v.restByHaul .poised := by
    rw [hx, restByHaul_eq]
    split <;> simp
  have h := lineEntering_slot (l := Line.offer v.line (.done v.flyer c.segment c.reps) .plain) hne (by simpa using hl)
  unfold lineCompleting
  simp only
  split
  · simpa using h
  · exact h

section
variable {v : State} {c : CurrentCue} (hc : v.cue.current = some c) (hp : c.phase = .running)
include hc hp

theorem completeRun_axis : (completeRun v).axis = v.axis.landed (v.restByHaul .poised) := by
  simp [completeRun_eq hc hp]
theorem completeRun_engine : (completeRun v).engine = Engine.toIdle v.engine := by simp [completeRun_eq hc hp]
theorem completeRun_cue : (completeRun v).cue = v.cue.completed c := by simp [completeRun_eq hc hp]
theorem completeRun_line : (completeRun v).line = lineCompleting c v := by simp [completeRun_eq hc hp]
theorem completeRun_store : (completeRun v).store = storeCompleting c v := by simp [completeRun_eq hc hp]

end

/-- A completed run, from a state `v` in which the event has only let the axis and the engine work. -/
theorem runCompleted_of {s v : State} {c : CurrentCue} {lim : Option (Bool × Bool)} (hs : Calm s)
    (hon : s.line.state = .on) (hf : FrameBut [.axis, .engine] s v) (hx : v.axis.state = .flying)
    (hb : v.axis.brake = s.axis.brake) (hfl : v.axis.faults = s.axis.faults) (hc : s.cue.current = some c)
    (hp : c.phase = .running) :
    runCompleted s (finish ((completeRun v).withAxis { (completeRun v).axis with demand := 0, limits := lim })) c
      v.axis.inputs.haul := by
  have hcue := hf.block .cue (by decide)
  have hline : v.line = s.line := hf.block .line (by decide)
  have haloft := (hf.block .store (by decide)).aloft
  have hvc : v.cue.current = some c := (CueUnit.sameBut.current hcue).trans hc
  have hpost : Posting s (completeRun v) (donePosts c v) :=
    ((Posting.refl hs).congr hline).completeRun hvc hp (by simp)
  have hpost' := hpost.withAxis { (completeRun v).axis with demand := 0, limits := lim }
  have hq := hpost'.quiet
  have hax := completeRun_axis hvc hp
  refine ⟨?_, ?_, ?_, ?_, ?_, ?_, ?_, ?_, ?_, ?_, ?_, ?_, ?_, ?_⟩
  · rw [finish_axis _ hq, State.withAxis_axis, hax, restByHaul_eq, hf.conf]
    rfl
  · rw [finish_axis _ hq, State.withAxis_axis, hax]
    exact Axis.command_brake _ _
  · rw [finish_axis _ hq, State.withAxis_axis]
  · rw [finish_axis _ hq, State.withAxis_axis, hax]
    exact fun hr => Axis.command_timer v.axis (by simp [hb, hr])
  · rw [finish_axis _ hq, State.withAxis_axis, hax, ← hfl]
    exact Axis.command_faults _ _
  · rw [finish_engine _ hq, State.withAxis_engine, completeRun_engine hvc hp]
    rfl
  · rw [finish_engine _ hq, State.withAxis_engine, completeRun_engine hvc hp]
    rfl
  · rw [finish_current hq, State.withAxis_cue, completeRun_cue hvc hp]
    rfl
  · rw [finish_queue hq, ← CueUnit.sameBut.queue hcue]
    rw [State.withAxis_cue, completeRun_cue hvc hp]
    rfl
  · rw [finish_held hq, State.withAxis_cue, completeRun_cue hvc hp]
    rfl
  · rw [hpost'.finish.newPosts hon, donePosts, hf.flyer, hf.isLead]
    simp
  · rw [finish_line _ hq, State.withAxis_line]
    rw [completeRun_line hvc hp]
    exact lineCompleting_slot c hx (by rw [hline, hon])
  · rw [finish_aloft hq, ← hf.conf, ← hf.flyer, ← haloft, ← storeCompleting_target c (by simp [hx])]
    rw [State.withAxis_store, completeRun_store hvc hp]
  · exact ((hf.chain (ds := [.axis, .engine, .cue, .line, .store]) (frame_completeRun v) (by decide) (by decide)).chain
      (frame_withAxis _ _) (by decide) (by decide)).finish hq

/-! ### Samples in FLYING -/

theorem sampledBy_inputsRead (i : WinchInputs) (s : State) : sampledBy (inputsRead i s) = sampledBy s := rfl

/-- A sample in FLYING without a fault, short of the completion. -/
theorem exec_sample_flying {i : WinchInputs} {s : State} (hs : Calm s) (hx : s.axis.state = .flying)
    (hb : s.axis.brake = .released) (h1 : i.estop = false) (h2 : i.driveFault = false)
    (h3 : i.load ≤ (s.conf.overloadThreshold : Int)) (hc : ¬completesAtSample s) (he : s.engine.state ≠ .idle)
    (hsl : (s.conf.slackThreshold : Int) ≤ i.load) (hlim : noLimitRises i s) (hmax : i.haul ≤ (s.conf.maxHaul : Int))
    (hbt : s.axis.brakeTimer.map (· - 1) ≠ some 0 ∨ i.feedback = .released)
    (hfol : |s.engine.planned + sampledDemand s - i.haul * 1000000| ≤ (s.conf.followLimit : Int) * 1000000) :
    ∃ t, exec (.axisSample i) s = .next t ∧ t.axis.state = .flying ∧ t.engine = sampledBy s
      ∧ t.axis.demand = sampledDemand s ∧ t.axis.brake = .released ∧ FrameBut [.axis, .engine] s t := by
  have hw := sampleWork_flying i hx hc
  have hk : FaultSet.isEmpty (sampleFaults ((s.withEngine (sampledBy s)).withAxis
      { readInputs i s.axis with demand := (sampledBy s).demand })) = true := by
    refine sampleFaults_empty (by simpa [readInputs]) (by simpa [readInputs]) (by simpa [readInputs])
      (brakeTest_false ?_) (followTest_false ?_) (by simpa [readInputs]) (limitTest_false (i := i) rfl hlim hmax)
    · exact hbt.imp id (fun h => h.trans hb.symm)
    · simpa [followPlanned, readInputs, hx, sampledBy_planned he] using hfol
  obtain ⟨hex, hax, hfr⟩ := exec_sample_kept hs (by simp [hx]) hw hk
    ((frame_withEngine s _).chain (ds := [.axis, .engine]) (frame_withAxis _ _) (by decide) (by decide)) (by simp) hs.2.1
  refine ⟨_, hex, ?_, finish_engine _ hs.2.1, ?_, ?_, hfr⟩
  all_goals rw [hax]
  · exact hx
  · exact sampledBy_demand he
  · exact hb

/-- The engine with the step being played timed out. -/
def Engine.timedOut (e : Engine) : Engine := { e with stepTimer := 0 }

theorem exec_stepEnd {s : State} (hs : Calm s) (he : s.engine.state = .playing) :
    exec .stepEnd s
      = .next (finish (testCompletion (s.withEngine (Engine.stepEnd s.store.working.words s.engine.timedOut)))) := by
  have hex : exec .stepEnd s = .next (event endStep s) := rfl
  rw [hex, event_calm _ hs]
  unfold endStep
  rw [he]
  rfl

theorem timedOut_completes (ws : List Word) {e : Engine} (he : e.state = .playing) :
    Engine.completes (Engine.stepEnd ws e.timedOut) = true ↔ onLastStep e ∧ e.demand = 0 :=
  Engine.stepEnd_completes ws e.timedOut he

/-- STEP_END where the run does not complete. -/
theorem exec_stepEnd_working {s : State} (hs : Calm s) (he : s.engine.state = .playing)
    (hc : ¬(onLastStep s.engine ∧ s.engine.demand = 0)) :
    ∃ u, exec .stepEnd s = .next u ∧ u.engine = Engine.stepEnd s.store.working.words s.engine.timedOut
      ∧ FrameBut [.engine] s u := by
  have hn := (timedOut_completes s.store.working.words he).not.mpr hc
  have ht : testCompletion (s.withEngine (Engine.stepEnd s.store.working.words s.engine.timedOut))
      = s.withEngine (Engine.stepEnd s.store.working.words s.engine.timedOut) := if_neg hn
  rw [exec_stepEnd hs he, ht]
  exact ⟨_, rfl, finish_engine _ hs.2.1, (frame_withEngine s _).finish hs.2.1⟩

/-- STEP_END where the run completes. -/
theorem exec_stepEnd_completing {s : State} (hs : Calm s) (he : s.engine.state = .playing)
    (hc : onLastStep s.engine ∧ s.engine.demand = 0) :
    exec .stepEnd s
      = .next (finish (completeRun (s.withEngine (Engine.stepEnd s.store.working.words s.engine.timedOut)))) := by
  have ht : testCompletion (s.withEngine (Engine.stepEnd s.store.working.words s.engine.timedOut))
      = completeRun (s.withEngine (Engine.stepEnd s.store.working.words s.engine.timedOut)) :=
    if_pos ((timedOut_completes s.store.working.words he).mpr hc)
  rw [exec_stepEnd hs he, ht]

theorem onLastStep_of {e : Engine} {p : Play} (hp : e.play = some p) (h : e.stepsLeft ≤ 1) (hr : e.remaining ≤ 1)
    (hn : ¬(p.mode = .swing ∧ e.dir = .forward)) : onLastStep e := by
  refine ⟨p, hp, h, fun hm => ⟨?_, hr⟩⟩
  cases hd : e.dir with
  | forward => exact absurd ⟨hm, hd⟩ hn
  | back => rfl

/-- The axis with the confirmation timer expired (05 R105). -/
def Axis.confirmed (x : Axis) : Axis := { x with brakeTimer := some 0 }

theorem targetAt_eq (s : State) (e : Engine) : targetAt s e = playedSpeed s.store.working.words e.row e.col e.dir := by
  unfold targetAt playedSpeed
  cases e.dir <;> rfl

end Sys2Proof.Machine

open Sys2Proof Sys2Proof.Machine

/-- Settles O11: short of the completion the engine's work alone, with it the completion. -/
theorem flyingDrivesEngineDemand : Obligations.FlyingDrivesEngineDemand := by
  intro i s ⟨hs, hon⟩ hx hb h1 h2 h3
  refine ⟨fun hc hsl hlim hmax hbt hfol => ⟨fun he ht => ?_, fun he ht => ?_, fun he => ?_⟩, fun c hc hcur hp => ?_⟩
  · obtain ⟨t, hex, hst, hen, hd, hbr, hfr⟩ :=
      exec_sample_flying hs hx hb h1 h2 h3 hc (by simp [he]) hsl hlim hmax hbt hfol
    rw [sampledBy_playing he, if_neg (by omega)] at hen
    exact ⟨t, hex, hst, hen, hd, hbr, hfr⟩
  · obtain ⟨t, hex, hst, hen, hd, hbr, hfr⟩ :=
      exec_sample_flying hs hx hb h1 h2 h3 hc (by simp [he]) hsl hlim hmax hbt hfol
    have hlast : ¬(onLastStep (sampledEngine s) ∧ (sampledEngine s).demand = 0) :=
      fun h => hc ⟨h.2, .inr ⟨he, ht, h.1⟩⟩
    have hzero : (sampledEngine s).stepTimer = 0 := by
      simp only [sampledEngine, he, if_true]
      omega
    have htime : (sampledEngine s).timedOut = sampledEngine s := by rw [Engine.timedOut, ← hzero]
    obtain ⟨u, hux, hue, -⟩ := exec_stepEnd_working (s := s.withEngine (sampledEngine s)) hs he hlast
    rw [State.withEngine_engine, htime] at hue
    have hdem := sampledBy_demand (s := s) (by simp [he])
    have hpl := sampledBy_planned (s := s) (by simp [he])
    refine ⟨t, u, hex, hux, hst, ?_, by rw [hen, hdem], by rw [hen, hpl], hd, hbr, hfr⟩
    rw [hen, hue, sampledBy_playing he, if_pos ht]
    rfl
  · obtain ⟨t, hex, hst, hen, hd, hbr, hfr⟩ :=
      exec_sample_flying hs hx hb h1 h2 h3 hc (by simp [he]) hsl hlim hmax hbt hfol
    rw [sampledBy_settling he] at hen
    exact ⟨t, hex, hst, hen, hd, hbr, hfr⟩
  · have hv : FrameBut [.axis, .engine] s ((inputsRead i s).withEngine (sampledBy s)) :=
      (frame_withAxis s _).chain (frame_withEngine _ _) (by decide) (by decide)
    have hvc : ((inputsRead i s).withEngine (sampledBy s)).cue.current = some c := hcur
    have hax : (completeRun ((inputsRead i s).withEngine (sampledBy s))).axis
        = (readInputs i s.axis).landed ((inputsRead i s).restByHaul .poised) := completeRun_axis hvc hp
    have hrest : AxisState.atRest ((inputsRead i s).restByHaul .poised) = true := restByHaul_rest _ rfl
    obtain ⟨-, hnf, hns, -, hnl, -⟩ := AxisState.atRest.ne hrest
    have hw : sampleWork i s = (completeRun ((inputsRead i s).withEngine (sampledBy s))).withAxis
        { (completeRun ((inputsRead i s).withEngine (sampledBy s))).axis with demand := 0 } := by
      rw [sampleWork, engineStage_completing (s := inputsRead i s) hc, sampledBy_inputsRead]
      exact stateStage_standing (by rw [hax]; exact hnf) (by rw [hax]; exact hns) (by rw [hax]; exact hnl)
    have hfr := hv.chain (ds := [.axis, .engine, .cue, .line, .store]) (frame_completeRun _) (by decide) (by decide)
    have hk : FaultSet.isEmpty (sampleFaults (sampleWork i s)) = true := by
      have hmov : AxisState.moving ((inputsRead i s).restByHaul .poised) = false := by
        rw [restByHaul_eq]
        split <;> rfl
      have htimer := Axis.command_timer (readInputs i s.axis) (b := .set) (by simp [readInputs, hb])
      rw [hw, sampleFaults_standing (by rw [State.withAxis_axis, hax]; exact hmov)]
      refine standingFaults_empty ?_ ?_ ?_ (brakeTest_false (.inl ?_))
      all_goals rw [State.withAxis_axis, hax]
      · simpa [Axis.landed, Axis.command_inputs, readInputs]
      · simpa [Axis.landed, Axis.command_inputs, readInputs]
      · rw [State.withAxis_conf, hfr.conf]
        simpa [Axis.landed, Axis.command_inputs, readInputs]
      · simp [Axis.landed, htimer]
    refine ⟨_, exec_sample_clear hs (by simp [hx]) hk, ?_, ?_⟩
    · have hq : (keepLimits i (sampleWork i s)).line.reports = [] := by
        have hpost := ((Posting.refl hs).congr (hv.block .line (by decide))).completeRun hvc hp (by simp)
        rw [hw]
        exact hpost.quiet
      rw [finish_axis _ hq, hw]
      simp only [keepLimits, State.withAxis_axis, hax]
      exact Axis.command_inputs _ _
    · have hdone := runCompleted_of (lim := some (i.upper, i.lower)) hs hon hv hx rfl rfl hcur hp
      rw [hw]
      exact hdone

/-- Settles O13: one case for each thing a step end can do. -/
theorem stepEndMovesCursor : Obligations.StepEndMovesCursor := by
  intro s p hs he hp
  have hpt : s.engine.timedOut.play = some p := hp
  refine ⟨fun h => ?_, fun hm hd h => ?_, fun hm hd h hr => ?_, fun h hr hdem hnt => ?_,
    fun c hon h hr hdem hnt hx hc hcp => ?_⟩
  · have hnl : ¬(onLastStep s.engine ∧ s.engine.demand = 0) := by
      rintro ⟨⟨q, -, hq, -⟩, -⟩
      omega
    obtain ⟨u, hux, hue, hfr⟩ := exec_stepEnd_working hs he hnl
    rw [Engine.stepEnd_next _ _ hpt h] at hue
    refine ⟨u, hux, ?_⟩
    rw [hue]
    cases hm : p.mode with
    | once =>
      simp [Engine.load, Engine.nextColumn, hm, Engine.atPosition, Engine.position, Engine.stepped, Engine.timedOut,
        targetAt_eq, he, hfr]
      omega
    | back =>
      simp [Engine.load, Engine.nextColumn, hm, Engine.atPosition, Engine.position, Engine.stepped, Engine.timedOut,
        targetAt_eq, he, hfr]
      omega
    | swing =>
      cases hd : s.engine.dir <;>
        simp [Engine.load, Engine.nextColumn, hm, Engine.stepped, Engine.timedOut, targetAt_eq, he, hfr, hd]
  · have hnl : ¬(onLastStep s.engine ∧ s.engine.demand = 0) := by
      rintro ⟨⟨q, hq, -, hsw⟩, -⟩
      obtain rfl : p = q := by simpa [hp] using hq
      simp [hd] at hsw
      exact hsw hm
    obtain ⟨u, hux, hue, hfr⟩ := exec_stepEnd_working hs he hnl
    rw [Engine.stepEnd_turn _ _ hpt h.le hm hd] at hue
    refine ⟨u, hux, ?_⟩
    rw [hue]
    simp [Engine.load, Engine.turn, Engine.stepped, Engine.timedOut, playedSpeed, hfr]
  · have hnl : ¬(onLastStep s.engine ∧ s.engine.demand = 0) := by
      rintro ⟨⟨q, hq, -, hsw⟩, -⟩
      obtain rfl : p = q := by simpa [hp] using hq
      have := (hsw hm).2
      omega
    obtain ⟨u, hux, hue, hfr⟩ := exec_stepEnd_working hs he hnl
    rw [Engine.stepEnd_newPass _ _ hpt h.le hm hd hr] at hue
    refine ⟨u, hux, ?_⟩
    rw [hue]
    simp [Engine.load, Engine.newPass, Engine.repeated, Engine.stepped, Engine.timedOut, playedSpeed, hfr]
  · have hl : onLastStep s.engine.timedOut := onLastStep_of hp h.le hr.le hnt
    obtain ⟨u, hux, hue, hfr⟩ := exec_stepEnd_working hs he (fun hn => hdem hn.2)
    rw [Engine.stepEnd_last _ _ hl] at hue
    refine ⟨u, hux, ?_⟩
    rw [hue]
    simp [Engine.lastStep, Engine.repeated, Engine.stepped, Engine.timedOut, hr, hfr]
  · have hl : onLastStep s.engine := onLastStep_of hp h.le hr.le hnt
    refine ⟨_, exec_stepEnd_completing hs he ⟨hl, hdem⟩, ?_⟩
    have hv : FrameBut [.axis, .engine] s (s.withEngine (Engine.stepEnd s.store.working.words s.engine.timedOut)) :=
      (frame_withEngine s _).over (by decide)
    have hdone := runCompleted_of
      (lim := (completeRun (s.withEngine (Engine.stepEnd s.store.working.words s.engine.timedOut))).axis.limits)
      hs hon hv hx rfl rfl hc hcp
    have hq := (((Posting.refl hs).withEngine (Engine.stepEnd s.store.working.words s.engine.timedOut)).completeRun
      hc hcp (by simp)).quiet
    have hvc : (s.withEngine (Engine.stepEnd s.store.working.words s.engine.timedOut)).cue.current = some c := hc
    have hself : ∀ u : State, u.axis.demand = 0 → u.withAxis { u.axis with demand := 0, limits := u.axis.limits } = u := by
      intro u hu
      rw [← hu]
      rfl
    rw [hself _ (by rw [completeRun_axis hvc hcp]; rfl)] at hdone
    refine ⟨?_, hdone⟩
    rw [finish_engine _ hq, completeRun_engine hvc hcp, State.withEngine_engine, Engine.stepEnd_last _ s.engine.timedOut hl]
    rfl

/-- Settles O14: the confirmation's own test, alone. -/
theorem brakeConfirmationTests : Obligations.BrakeConfirmationTests := by
  intro s n ⟨hs, hon⟩ hu ht
  have hex : exec .brakeConfirmationExpiry s = .next (event confirmBrake s) := rfl
  have hact : confirmBrake s = detect { noFaults with brake := brakeTest (s.axis.confirmed) }
      (s.withAxis s.axis.confirmed) := by
    unfold confirmBrake
    rw [ht]
    rfl
  rw [event_calm _ hs, hact] at hex
  refine ⟨fun hf => ?_, fun hf => ?_⟩
  · have hb : brakeTest s.axis.confirmed = false := brakeTest_false (.inr hf)
    rw [detect_nothing (by simp [hb, noFaults, FaultSet.isEmpty])] at hex
    exact ⟨_, hex, finish_axis _ hs.2.1, (frame_withAxis s _).finish hs.2.1⟩
  · have hb : brakeTest s.axis.confirmed = true := by simpa [brakeTest, Axis.confirmed] using hf
    rw [hb] at hex
    by_cases hx : s.axis.state = .faulted
    · rw [detect_faulted (s := s.withAxis s.axis.confirmed) _ hx] at hex
      have hq : (addKinds { noFaults with brake := true } (s.withAxis s.axis.confirmed)).line.reports = [] := by
        rw [addKinds_reports]
        exact hs.2.1
      refine ⟨_, hex, ?_, ?_, FrameBut.finish ?_ hq⟩
      · rw [finish_axis _ hq]
        exact hx
      · rw [finish_axis _ hq]
        simp [FaultSet.union]
      · exact (frame_withAxis s _).chain (frame_addKinds _ _) (by decide) (by decide)
    · rw [detect_enters (s := s.withAxis s.axis.confirmed) (by rfl) hx hu] at hex
      obtain ⟨qs, hpost⟩ := ((Posting.refl hs).withAxis s.axis.confirmed).enterFaulted (.inl rfl)
        { noFaults with brake := true }
      have hq := hpost.quiet
      refine ⟨_, hex, ?_, ?_, FrameBut.finish ?_ hq⟩
      · rw [finish_axis _ hq, enterFaulted_axis]
      · rw [finish_axis _ hq, enterFaulted_axis]
        simp [FaultSet.union]
      · exact (frame_withAxis s _).chain (frame_enterFaulted _ _) (by decide) (by decide)

end

section
/-! A sample that finds a fault. -/

namespace Sys2Proof.Machine

/-- What the stages of a sample of inputs `i` leave for its fault tests, from a state neither faulted nor unconfigured. -/
structure Worked (i : WinchInputs) (s t : State) : Prop where
  inputs : t.axis.inputs = i
  up : t.axis.state ≠ .faulted ∧ t.axis.state ≠ .unconfigured
  frame : FrameBut [.axis, .engine, .cue, .line, .store] s t
  posting : ∃ ps, Posting s t ps ∧ (ps = [] ∨ ps.length ≤ 2 ∧ t.cue.current = none)

/-- The work of an axis state moves demand, brake and ramp, or ends a stop at rest. -/
theorem stateStage_shape (t : State) :
    (∃ x : Axis, stateStage t = t.withAxis x ∧ x.inputs = t.axis.inputs ∧ x.state = t.axis.state)
      ∨ ∃ x : Axis, stateStage t = (t.withAxis x).enterAxis (t.restByHaul .holding) ∧ x.inputs = t.axis.inputs := by
  cases hx : t.axis.state
  case flying => exact .inl ⟨_, stateStage_flying hx, rfl, hx⟩
  case locked =>
    exact .inl ⟨_, stateStage_locked hx, Axis.command_inputs _ _, (Axis.command_state _ _).trans hx⟩
  case stopping =>
    rw [stateStage_stopping hx]
    cases hb : t.axis.brake with
    | released => exact .inl ⟨_, stoppingStage_ramp hb, Axis.ramped_inputs _ _, (Axis.ramped_state _ _).trans hx⟩
    | set =>
      cases hi : t.axis.inputs.feedback with
      | released => exact .inl ⟨_, stoppingStage_wait hb hi, rfl, hx⟩
      | set => exact .inr ⟨_, stoppingStage_stopped hb hi, rfl⟩
  all_goals exact .inl ⟨_, stateStage_standing (by simp [hx]) (by simp [hx]) (by simp [hx]), rfl, hx⟩

theorem Worked.stateStage {i : WinchInputs} {s t : State} (h : Worked i s t) : Worked i s (stateStage t) := by
  obtain ⟨hi, hu, hf, ps, hp, hc⟩ := h
  rcases stateStage_shape t with ⟨x, he, hxi, hxs⟩ | ⟨x, he, hxi⟩
  · rw [he]
    exact ⟨hxi.trans hi, by rw [State.withAxis_axis, hxs]; exact hu, hf.chain (frame_withAxis _ _) (by decide) (by decide), ps, hp, hc⟩
  · rw [he]
    have hrest : AxisState.atRest (t.restByHaul .holding) = true := restByHaul_rest t rfl
    obtain ⟨-, -, -, hnf, -, hnu⟩ := AxisState.atRest.ne hrest
    refine ⟨by simpa [hxi] using hi, by simp [hnf, hnu], (hf.chain (frame_withAxis t x) (by decide) (by decide) (ds :=
      [.axis, .engine, .cue, .line, .store])).chain (frame_enterAxis _ _) (by decide) (by decide), ps, (hp.withAxis x).enterAxis _, ?_⟩
    simpa using hc

theorem completeRun_cases (v : State) :
    (∃ c, v.cue.current = some c ∧ c.phase = .running)
      ∨ completeRun v = v.withEngine (Engine.toIdle v.engine) := by
  unfold completeRun
  cases hc : v.cue.current with
  | none => exact .inr rfl
  | some c =>
    cases hp : c.phase with
    | armed => exact .inr (if_neg (by simp [hp]))
    | running => exact .inl ⟨c, rfl, hp⟩

theorem Worked.engineStage {i : WinchInputs} {s : State} (hs : Calm s) (hf : s.axis.state ≠ .faulted)
    (hu : s.axis.state ≠ .unconfigured) : Worked i s (engineStage (inputsRead i s)) := by
  have hv : FrameBut [.axis, .engine, .cue, .line, .store] s (inputsRead i s) := (frame_withAxis s _).over (by decide)
  have hin : ∀ e, Worked i s ((inputsRead i s).withEngine e) := fun e =>
    ⟨rfl, ⟨hf, hu⟩, hv.chain (frame_withEngine _ _) (by decide) (by decide), [], Posting.refl hs, .inl rfl⟩
  by_cases hc : completesAtSample (inputsRead i s)
  · rw [engineStage_completing hc]
    rcases completeRun_cases ((inputsRead i s).withEngine (sampledBy (inputsRead i s))) with ⟨c, hcur, hp⟩ | he
    · have hax := completeRun_axis hcur hp
      have hrest : AxisState.atRest
          (((inputsRead i s).withEngine (sampledBy (inputsRead i s))).restByHaul .poised) = true := restByHaul_rest _ rfl
      obtain ⟨-, -, -, hnf, -, hnu⟩ := AxisState.atRest.ne hrest
      refine ⟨?_, ?_, (hin _).frame.chain (frame_completeRun _) (by decide) (by decide), _,
        (((Posting.refl hs).withAxis _).withEngine _).completeRun hcur hp (by simp), .inr ⟨?_, ?_⟩⟩
      · rw [hax]
        exact Axis.command_inputs _ _
      · rw [hax]
        exact ⟨hnf, hnu⟩
      · unfold donePosts
        split <;> simp
      · rw [completeRun_cue hcur hp]
        rfl
    · rw [he]
      exact hin (Engine.toIdle _)
  · rw [engineStage_working hc]
    exact hin _

theorem worked_sampleWork (i : WinchInputs) {s : State} (hs : Calm s) (hf : s.axis.state ≠ .faulted)
    (hu : s.axis.state ≠ .unconfigured) : Worked i s (sampleWork i s) :=
  (Worked.engineStage hs hf hu).stateStage

/-- A sample whose tests find kinds enters FAULTED with them (05 R112). -/
theorem sample_faults {i : WinchInputs} {s : State} (hs : CalmOn s) (hf : s.axis.state ≠ .faulted)
    (hu : s.axis.state ≠ .unconfigured) (hk : FaultSet.isEmpty (sampleFaults (sampleWork i s)) = false) :
    ∃ t, exec (.axisSample i) s = .next t ∧ enteredFaulted i s t
      ∧ t.axis.faults = FaultSet.union (sampleWork i s).axis.faults (sampleFaults (sampleWork i s))
      ∧ ((sampleWork i s).line = s.line → reportedLast s t) := by
  obtain ⟨hcalm, hon⟩ := hs
  obtain ⟨hin, ⟨hnf, hnu⟩, hfr, ps, hp, hc⟩ := worked_sampleWork i hcalm hf hu
  have hex : exec (.axisSample i) s = .next (event (sample i) s) := rfl
  rw [event_calm _ hcalm, sample_eq i hu, detect_enters hk hnf hnu] at hex
  obtain ⟨qs, hpost⟩ := hp.enterFaulted hc (sampleFaults (sampleWork i s))
  have hq : (keepLimits i (enterFaulted (sampleFaults (sampleWork i s)) (sampleWork i s))).line.reports = [] :=
    hpost.quiet
  have hax := finish_axis _ hq
  have hcue := enterFaulted_cue (sampleFaults (sampleWork i s)) (sampleWork i s)
  have hkl : ∀ u : State, (keepLimits i u).axis = { u.axis with limits := some (i.upper, i.lower) } := fun _ => rfl
  rw [hkl, enterFaulted_axis] at hax
  refine ⟨_, hex, ⟨?_, ?_, ?_, ?_, ?_, ?_, ?_, ?_, ?_, ?_⟩, ?_, fun hline hslot => ?_⟩
  · rw [hax]
  · rw [hax]
    exact Axis.command_brake _ _
  · rw [hax]
  · rw [hax]
  · rw [hax]
  · rw [hax]
    exact (Axis.command_inputs _ _).trans hin
  · rw [finish_current hq]
    exact hcue.1
  · rw [finish_queue hq]
    exact hcue.2
  · have hnew := (hpost.withAxis (keepLimits i (enterFaulted (sampleFaults (sampleWork i s)) (sampleWork i s))).axis)
      |>.finish.newPosts hon
    have hcode : (faultReason (sampleFaults (sampleWork i s))).code = if i.estop then 1 else 2 := by
      have he : (sampleFaults (sampleWork i s)).estop = i.estop := congrArg WinchInputs.estop hin
      unfold faultReason
      rw [he]
      cases i.estop <;> rfl
    rw [hfr.flyer, hcode] at hnew
    have hmem : Post.halt s.flyer (if i.estop then 1 else 2) ∈ qs ++ [Post.halt s.flyer (if i.estop then 1 else 2)] := by
      simp
    rw [← hnew] at hmem
    exact hmem
  · exact ((hfr.chain (ds := [.axis, .engine, .cue, .line, .store]) (frame_enterFaulted _ _) (by decide) (by decide)).chain
      (frame_withAxis _ _) (by decide) (by decide)).finish hq
  · rw [hax]
  · rw [finish_line _ hq]
    exact enterFaulted_reported hp hc _ hon (by rw [hline, hslot])

/-! ### The kinds a sample finds -/

/-- A sample that keeps the brake command leaves the line, the command and its timer's count to its tests. -/
theorem sampleWork_keepsBrake {i : WinchInputs} {s : State} (h : keepsBrakeCommand i s) :
    (sampleWork i s).line = s.line ∧ (sampleWork i s).axis.brake = s.axis.brake
      ∧ (sampleWork i s).axis.brakeTimer = s.axis.brakeTimer.map (· - 1) ∨ i.feedback = s.axis.brake := by
  rcases h with ⟨hx, hc⟩ | ⟨he, hx | hx | ⟨hx, hb⟩ | ⟨hx, hb, hu, hd⟩⟩
  · rw [sampleWork_flying i hx hc]
    exact .inl ⟨rfl, rfl, rfl⟩
  · obtain ⟨-, hf, hst, -, hl, -⟩ := AxisState.atRest.ne hx
    rw [sampleWork_standing i he hf hst hl]
    exact .inl ⟨rfl, rfl, rfl⟩
  · rw [sampleWork_standing i he (by simp [hx]) (by simp [hx]) (by simp [hx])]
    exact .inl ⟨rfl, rfl, rfl⟩
  · cases hbr : s.axis.brake with
    | set =>
      cases hi : i.feedback with
      | set => exact .inr rfl
      | released =>
        rw [sampleWork_wait i hx he hbr hi]
        exact .inl ⟨rfl, hbr, rfl⟩
    | released =>
      have hne := hb.resolve_left (by simp [hbr])
      rw [sampleWork_ramp i hx he hbr]
      obtain ⟨h1, h2⟩ := Axis.ramped_short (x := readInputs i s.axis) hne
      exact .inl ⟨rfl, h1.trans hbr, h2⟩
  · have hd' : Machine.jogDecision s.conf.groundBand i = (.set, 0) := by simp [Machine.jogDecision, hu, hd]
    rw [sampleWork_locked i hx he, hd']
    exact .inl ⟨rfl, by simp [hb], Axis.jogged_timer_same (x := readInputs i s.axis) hb⟩

/-- A sample of a watched line leaves the line interface, the motion, the plan and the limits to its tests. -/
theorem sampleWork_watched {i : WinchInputs} {s : State} {p : Int} (h : watchedPlan i s p) :
    (sampleWork i s).line = s.line ∧ AxisState.moving (sampleWork i s).axis.state = true
      ∧ followPlanned (sampleWork i s) = p ∧ (sampleWork i s).axis.limits = s.axis.limits := by
  rcases h with ⟨hx, he, hc, rfl⟩ | ⟨hx, he, ⟨hb, r, hr, rfl⟩ | ⟨hb, hi, hr⟩⟩
  · rw [sampleWork_flying i hx hc]
    refine ⟨rfl, by simp [readInputs, hx, AxisState.moving], ?_, rfl⟩
    simpa [followPlanned, readInputs, hx] using sampledBy_planned he
  · rw [sampleWork_ramp i hx he hb]
    refine ⟨rfl, by simp [readInputs, hx, AxisState.moving], ?_, by simp [readInputs]⟩
    simp [followPlanned, readInputs, hx, hr]
  · rw [sampleWork_wait i hx he hb hi]
    refine ⟨rfl, by simp [readInputs, hx, AxisState.moving], ?_, rfl⟩
    simp [followPlanned, readInputs, hx, hr]

theorem FaultSet.isEmpty_false {f : FaultSet}
    (h : f.estop = true ∨ f.drive = true ∨ f.overload = true ∨ f.brake = true ∨ f.follow = true ∨ f.slack = true
      ∨ f.limit = true) : FaultSet.isEmpty f = false := by
  rcases h with h | h | h | h | h | h | h <;> simp [FaultSet.isEmpty, h]

end Sys2Proof.Machine

open Sys2Proof Sys2Proof.Machine

/-- Settles O6: each kind's test finds it, and the entry latches what is found. -/
theorem sampleEntersFaulted : Obligations.SampleEntersFaulted := by
  intro i s hs hf hu
  have hw := worked_sampleWork i hs.1 hf hu
  have hes : (sampleFaults (sampleWork i s)).estop = i.estop := congrArg WinchInputs.estop hw.inputs
  have hdr : (sampleFaults (sampleWork i s)).drive = i.driveFault := congrArg WinchInputs.driveFault hw.inputs
  have hov : (s.conf.overloadThreshold : Int) < i.load → (sampleFaults (sampleWork i s)).overload = true := by
    intro h
    simpa [sampleFaults, hw.inputs, hw.frame.conf] using h
  refine ⟨fun h => ?_, fun hb ht hne => ?_, fun p hp => ⟨fun h => ?_, fun h => ?_, fun h => ?_⟩⟩
  · have hk : FaultSet.isEmpty (sampleFaults (sampleWork i s)) = false :=
      FaultSet.isEmpty_false (h.imp hes.trans (fun h => h.imp hdr.trans (fun h => .inl (hov h))))
    obtain ⟨t, hex, hent, hfl, -⟩ := sample_faults hs hf hu hk
    refine ⟨t, hex, hent, fun h => ?_, fun h => ?_, fun h => ?_⟩
    all_goals rw [hfl]
    · simp [FaultSet.union, hes, h]
    · simp [FaultSet.union, hdr, h]
    · simp [FaultSet.union, hov h]
  · obtain ⟨hl, hbr, hbt⟩ := (sampleWork_keepsBrake hb).resolve_right hne
    have hk : (sampleFaults (sampleWork i s)).brake = true := by
      simpa [sampleFaults, brakeTest, hbt, ht, hbr, hw.inputs] using hne
    obtain ⟨t, hex, hent, hfl, hrep⟩ := sample_faults hs hf hu (FaultSet.isEmpty_false (f := sampleFaults (sampleWork i s)) (by simp [hk]))
    exact ⟨t, hex, hent, by simp [hfl, FaultSet.union, hk], hrep hl⟩
  · obtain ⟨hl, hm, hplan, -⟩ := sampleWork_watched hp
    have hk : (sampleFaults (sampleWork i s)).follow = true := by
      simpa [sampleFaults, hm, followTest, hplan, hw.inputs, hw.frame.conf] using h
    obtain ⟨t, hex, hent, hfl, hrep⟩ := sample_faults hs hf hu (FaultSet.isEmpty_false (f := sampleFaults (sampleWork i s)) (by simp [hk]))
    exact ⟨t, hex, hent, by simp [hfl, FaultSet.union, hk], hrep hl⟩
  · obtain ⟨hl, hm, -, -⟩ := sampleWork_watched hp
    have hk : (sampleFaults (sampleWork i s)).slack = true := by
      simpa [sampleFaults, hm, hw.inputs, hw.frame.conf] using h
    obtain ⟨t, hex, hent, hfl, hrep⟩ := sample_faults hs hf hu (FaultSet.isEmpty_false (f := sampleFaults (sampleWork i s)) (by simp [hk]))
    exact ⟨t, hex, hent, by simp [hfl, FaultSet.union, hk], hrep hl⟩
  · obtain ⟨hl, hm, -, hlim⟩ := sampleWork_watched hp
    have hk : (sampleFaults (sampleWork i s)).limit = true :=
      sampleFaults_limit hm hw.inputs (by rw [hlim, hw.frame.conf]; exact h)
    obtain ⟨t, hex, hent, hfl, hrep⟩ := sample_faults hs hf hu (FaultSet.isEmpty_false (f := sampleFaults (sampleWork i s)) (by simp [hk]))
    exact ⟨t, hex, hent, by simp [hfl, FaultSet.union, hk], hrep hl⟩

end

section
/-! The start sequence. -/

namespace Sys2Proof.Machine

theorem Store.requestAloft_settled {st : Store} (h : st.aloft.target = st.aloft.stored) :
    Store.requestAloft st = st := by simp [Store.requestAloft, h]

theorem Store.requestLock_settled {st : Store} (h : st.lockRec.target = st.lockRec.stored) :
    Store.requestLock st = st := by simp [Store.requestLock, h]

theorem Store.requestFlag_settled {st : Store} (h : st.flag.target = st.flag.stored) :
    Store.requestFlag st = st := by simp [Store.requestFlag, h]

theorem Store.requestAloft_new {st : Store} (h : st.aloft.target ≠ st.aloft.stored) (hw : .aloftWrite ∉ st.waiting)
    (hf : MemOp.isAloft st.inFlight = false) : Store.requestAloft st = st.request .aloftWrite := by
  simp [Store.requestAloft, h, hw, hf]

theorem Store.grant_idle {st : Store} (h : st.waiting = []) : Store.grant st = st := by
  unfold Store.grant
  split
  · rfl
  · simp [nextRequest, h]

/-- A store whose records stand but for the aloft record's, with the port idle: serving the port writes that record where its target differs. -/
theorem Store.servePort_joining {st : Store} (hw : st.waiting = []) (hf : st.inFlight = none)
    (hl : st.lockRec.target = st.lockRec.stored) (hg : st.flag.target = st.flag.stored) :
    Store.servePort st
      = { st with inFlight := if st.aloft.target = st.aloft.stored then none else some (.aloftWrite st.aloft.target) } := by
  unfold Store.servePort
  by_cases ha : st.aloft.target = st.aloft.stored
  · rw [Store.requestAloft_settled ha, Store.requestLock_settled hl, Store.requestFlag_settled hg,
      Store.grant_idle hw, if_pos ha, ← hf]
  · rw [Store.requestAloft_new ha (by simp [hw]) (by simp [hf, MemOp.isAloft]), Store.requestLock_settled (by exact hl),
      Store.requestFlag_settled (by exact hg), if_neg ha]
    simp [Store.grant, Store.request, hf, hw, nextRequest, MemRequest.category, Store.opOf]

theorem exec_start_held {s : State} (h : s.power = .held) (strap : Fin 32) (pin : Bool) (inputs : WinchInputs) :
    exec (.startSequence strap pin inputs) s = .next (startHeld strap.val pin inputs s) := by
  have he : exec (.startSequence strap pin inputs) s = execStartSequence strap pin inputs s := rfl
  rw [he, execStartSequence, h]

theorem exec_start_running {s : State} (h : s.power = .running) (strap : Fin 32) (pin : Bool) (inputs : WinchInputs) :
    exec (.startSequence strap pin inputs) s = .next (startHeld strap.val pin inputs (hold s)) := by
  have he : exec (.startSequence strap pin inputs) s = execStartSequence strap pin inputs s := rfl
  rw [he, execStartSequence, h]

/-- The part as the start sequence has it before the configuration is read. -/
def starting (strap : Nat) (pin : Bool) (s : State) : State :=
  { State.held s.store.mem s.freeCount s.pending with
    power := .running, strap := strap, store := { Store.start s.store.mem with pinForced := pin } }

theorem startHeld_listenOnly {s : State} {strap : Nat} (h : readConfig s.store.mem strap = none) (pin : Bool)
    (inputs : WinchInputs) : startHeld strap pin inputs s = joinListenOnly (starting strap pin s) := by
  simp only [startHeld, h]
  rfl

theorem startHeld_configured {s : State} {strap : Nat} {c : StationConfig}
    (h : readConfig s.store.mem strap = some c) (pin : Bool) (inputs : WinchInputs) :
    startHeld strap pin inputs s = finish (joinConfigured c pin inputs (starting strap pin s)) := by
  simp only [startHeld, h]
  rfl

/-- The bank the start sequence makes active (09 R166). -/
def startingBank (pin : Bool) (m : Memory) : Bank := if pin then .a else bankOfFlag (Memory.read m 64)

theorem startingBank_eq (pin : Bool) (m : Memory) :
    startingBank pin m = if pin then .a else if Memory.read m 64 = 1 then .b else .a := rfl

theorem starting_mem (strap : Nat) (pin : Bool) (s : State) : (starting strap pin s).store.mem = s.store.mem := rfl

theorem joinConfigured_working (c : StationConfig) (pin : Bool) (inputs : WinchInputs) (s : State) :
    (joinConfigured c pin inputs s).store.working
      = ⟨readBank s.store.mem (startingBank pin s.store.mem),
          (validateBank c.maxHaul c.speedLimit (readBank s.store.mem (startingBank pin s.store.mem))).valid⟩ := by
  unfold startingBank
  rfl

theorem VerifyResult.valid_iff (r : VerifyResult) : r.valid = true ↔ r = .ok := by
  cases r <;> simp [VerifyResult.valid]

theorem startingAloft_stored (ax : AxisState) (r : Record AloftRecord) : (startingAloft ax r).stored = r.stored := by
  unfold startingAloft
  split <;> rfl

theorem startingAloft_target (ax : AxisState) (v : AloftRecord) :
    (startingAloft ax ⟨v, v⟩).target = if ax = .parked ∨ ax = .locked then .clear else v := by
  unfold startingAloft
  split <;> rfl

/-- The join step moves the aloft record's target to clear alone. -/
theorem startingAloft_clear {ax : AxisState} {v : AloftRecord}
    (h : (startingAloft ax ⟨v, v⟩).target ≠ (startingAloft ax ⟨v, v⟩).stored) :
    (startingAloft ax ⟨v, v⟩).target = .clear := by
  rw [startingAloft_stored, startingAloft_target] at h
  rw [startingAloft_target]
  split
  · rfl
  · rename_i hn
    exact absurd (if_neg hn) h

end Sys2Proof.Machine

open Sys2Proof Sys2Proof.Machine

/-- Settles O4: the join step writes each block out; of the port, only an aloft record to be cleared is served. -/
theorem startSequenceJoins : Obligations.StartSequenceJoins := by
  refine ⟨fun strap pin inputs s hs => ⟨fun hn => ?_, fun c hc => ?_⟩, fun strap pin inputs s hs => ?_⟩
  · refine ⟨_, (exec_start_held hs strap pin inputs).trans (by rw [startHeld_listenOnly hn]), ?_⟩
    exact ⟨rfl, rfl, rfl, rfl, rfl, rfl, rfl, rfl, rfl, rfl, rfl, rfl, rfl, rfl, rfl, rfl, rfl, rfl, rfl⟩
  · refine ⟨_, (exec_start_held hs strap pin inputs).trans (by rw [startHeld_configured hc]), ?_⟩
    generalize hj : joinConfigured c pin inputs (starting strap.val pin s) = j
    have hq : j.line.reports = [] := by rw [← hj]; rfl
    have hst := finish_store j hq
    have hw : j.store.waiting = [] := by rw [← hj]; rfl
    have hf : j.store.inFlight = none := by rw [← hj]; rfl
    have hl : j.store.lockRec.target = j.store.lockRec.stored := by rw [← hj]; rfl
    have hg : j.store.flag.target = j.store.flag.stored := by rw [← hj]; rfl
    rw [Store.servePort_joining hw hf hl hg] at hst
    rw [hst, finish_power j hq, finish_strap j hq, finish_cfg j hq, finish_line j hq, finish_reg j hq,
      finish_sync j hq, finish_roster j hq, finish_axis j hq, finish_queue hq, finish_current hq, finish_showStop hq,
      finish_slots hq, finish_held hq, finish_readyWait hq, finish_spaceWait hq, finish_owedRelease hq,
      finish_owed hq, finish_engine j hq, finish_lock j hq, finish_pending j hq]
    have hchain : (finish j).cue.chainDelay = none := by
      have hempty : j.cue.queue = [] := by rw [← hj]; rfl
      obtain ⟨v, hv⟩ := trackReclaim_eq (trackChain j)
      rw [finish_quiet j hq, hv]
      simp [trackChain, hempty]
    rw [hchain]
    subst hj
    refine ⟨rfl, rfl, rfl, rfl, rfl, rfl, rfl, rfl, rfl, rfl, rfl, rfl, rfl, rfl, rfl, rfl, rfl, rfl, rfl, rfl, rfl,
      ?_, ?_, ?_, rfl, rfl, rfl, rfl, rfl, rfl, rfl, rfl, rfl, ?_, ?_, rfl, rfl, rfl, ?_, rfl, rfl, rfl⟩
    · rfl
    · rw [joinConfigured_working, starting_mem, startingBank_eq]
    · rw [joinConfigured_working]
      dsimp only
      exact VerifyResult.valid_iff _
    · exact startingAloft_stored _ _
    · exact startingAloft_target _ _
    · by_cases ha : (startingAloft (startingAxis c (readLock s.store.mem).isSome inputs.haul)
          ⟨readAloft s.store.mem, readAloft s.store.mem⟩).target
          = (startingAloft (startingAxis c (readLock s.store.mem).isSome inputs.haul)
              ⟨readAloft s.store.mem, readAloft s.store.mem⟩).stored
      · exact (if_pos ha).trans (if_pos ha).symm
      · refine (if_neg ha).trans (Eq.trans ?_ (if_neg ha).symm)
        exact congrArg (fun v => some (MemOp.aloftWrite v)) (startingAloft_clear ha)
  · refine ⟨hold s, rfl, rfl, ?_⟩
    rw [exec_start_running hs, exec_start_held (s := hold s) rfl]

end

section
/-! The end of the current cue and the flush, the entries into LINE-OFF and DEAF, and a spoiled post. -/

namespace Sys2Proof.Machine

/-! ### A closed line interface with nothing to send -/

/-- The line interface sends nothing, and no post of its own stands in it. -/
structure Line.Muted (l : Line) : Prop where
  closed : l.state = .lineOff ∨ l.state = .deaf ∨ l.state = .listenOnly
  queue : l.queue = []
  onLine : l.onLine = none
  retry : l.retry = none

section
variable {l : Line} (h : l.Muted)
include h

theorem Line.Muted.offer (p : Post) (u : PostUse) : Line.offer l p u = l := Line.offer_closed l p u h.closed

theorem Line.Muted.requestPresence : Line.requestPresence l = l := by
  unfold Line.requestPresence
  rcases h.closed with hs | hs | hs <;> rw [hs]

theorem Line.Muted.entering (a b : AxisState) : lineEntering a b l = l := by
  unfold lineEntering
  rw [h.requestPresence, ite_self]

theorem Line.Muted.withdraw (f : OutPost → Bool) : Line.withdraw l f = l := by
  obtain ⟨_, hq, ho, hr⟩ := h
  cases l
  simp only at hq ho hr
  simp [Line.withdraw, hq, ho, hr]

end

/-! ### The current cue ended and the queue flushed (03 R67) -/

/-- What a HALT and the entry into LINE-OFF do to the cue unit: drop or cut, then flush. -/
def cueEnded (r : CutReason) (s : State) : State := flush (cutRun r (dropCue r true s))

section
variable {r : CutReason} {s : State} {c : CurrentCue}

theorem cueEnded_none (hc : s.cue.current = none) : cueEnded r s = flush s := by
  rw [cueEnded, dropCue_of_not_armed r true (by simp [hc]), cutRun_of_not_running r (by simp [hc])]

theorem cueEnded_armed (hc : s.cue.current = some c) (hp : c.phase = .armed) :
    cueEnded r s = flush (dropArmed c r true s) := by
  rw [cueEnded, dropCue_armed r true hc hp, cutRun_of_not_running r (by simp [dropArmed_eq, CueUnit.dropped])]

theorem cueEnded_running (hc : s.cue.current = some c) (hp : c.phase = .running) :
    cueEnded r s = flush (cutRunning c r s) := by
  rw [cueEnded, dropCue_of_not_armed r true (by simp [hc, hp]), cutRun_running r hc hp]

theorem cuePhase_cases (s : State) :
    s.cue.current = none ∨ (∃ c, s.cue.current = some c ∧ c.phase = .armed)
      ∨ ∃ c, s.cue.current = some c ∧ c.phase = .running := by
  cases hc : s.cue.current with
  | none => exact .inl rfl
  | some c =>
    cases hp : c.phase with
    | armed => exact .inr (.inl ⟨c, rfl, hp⟩)
    | running => exact .inr (.inr ⟨c, rfl, hp⟩)

theorem cutRunning_cue (c : CurrentCue) (r : CutReason) (s : State) : (cutRunning c r s).cue = s.cue.cutOff c := by
  by_cases hr : r = .fault ∨ s.axis.state ≠ .flying
  · simp [cutRunning_other c hr]
  · push Not at hr
    simp [cutRunning_flying c hr.1 hr.2]

theorem dropArmed_cue (c : CurrentCue) (r : CutReason) (w : Bool) (s : State) :
    (dropArmed c r w s).cue = s.cue.dropped (releaseOwed c s) := by simp [dropArmed_eq]

theorem dropArmed_axis (c : CurrentCue) (r : CutReason) (w : Bool) (s : State) :
    (dropArmed c r w s).axis = { s.axis with origin := none, state := originState s.axis } := by simp [dropArmed_eq]

theorem originState_armed {x : Axis} (h : x.state = .armed) : originState x = x.origin.getD .parked := if_pos h

/-- What the end of the current cue leaves of the cue unit, whatever the cue. -/
theorem cueEnded_cue (r : CutReason) (s : State) :
    (cueEnded r s).cue.queue = [] ∧ (cueEnded r s).cue.current = none
      ∧ (cueEnded r s).cue.showStop = s.cue.showStop ∧ (cueEnded r s).cue.owed = s.cue.owed := by
  rcases cuePhase_cases s with hc | ⟨c, hc, hp⟩ | ⟨c, hc, hp⟩
  · rw [cueEnded_none hc, flush_cue]
    exact ⟨rfl, hc, rfl, rfl⟩
  · rw [cueEnded_armed hc hp, flush_cue, dropArmed_cue]
    exact ⟨rfl, rfl, rfl, rfl⟩
  · rw [cueEnded_running hc hp, flush_cue, cutRunning_cue]
    exact ⟨rfl, rfl, rfl, rfl⟩

theorem frame_cueEnded (r : CutReason) (s : State) :
    FrameBut [.cue, .engine, .axis, .line, .store] s (cueEnded r s) :=
  ((frame_dropCue r true s).chain (ds := [.cue, .engine, .axis, .line, .store]) (frame_cutRun r _) (by decide) (by decide)).chain
    (frame_flush _) (by decide) (by decide)

theorem cueEnded_muted (r : CutReason) (h : s.line.Muted) : (cueEnded r s).line = s.line := by
  have hfl : ∀ u : State, u.line = s.line → (flush u).line = s.line := by
    intro u hu
    rw [flush_eq, State.withLine_line, lineFlushing, hu]
    split
    · rfl
    · exact h.offer _ _
  rcases cuePhase_cases s with hc | ⟨c, hc, hp⟩ | ⟨c, hc, hp⟩
  · rw [cueEnded_none hc]
    exact hfl s rfl
  · rw [cueEnded_armed hc hp]
    refine hfl _ ?_
    have hl : (dropArmed c r true s).line = lineDropping c r true s := by simp [dropArmed_eq]
    rw [hl, lineDropping, h.entering, h.withdraw, lineGivingBack]
    simp only [if_true, h.offer]
    rw [ite_self]
  · rw [cueEnded_running hc hp]
    refine hfl _ ?_
    have hcut : ∀ b, lineCutting c r s b = s.line := fun b => by rw [lineCutting, h.entering, h.offer]
    by_cases hr : r = .fault ∨ s.axis.state ≠ .flying
    · simp [cutRunning_other c hr, hcut]
    · push Not at hr
      simp [cutRunning_flying c hr.1 hr.2, hcut]

theorem cueEnded_axis_armed (hc : s.cue.current = some c) (hp : c.phase = .armed) (hx : s.axis.state = .armed) :
    (cueEnded r s).axis.state = s.axis.origin.getD .parked := by
  rw [cueEnded_armed hc hp, flush_axis, dropArmed_axis, ← originState_armed hx]

theorem cueEnded_owedRelease_armed (hc : s.cue.current = some c) (hp : c.phase = .armed) :
    (cueEnded r s).cue.owedRelease = releaseOwed c s := by
  rw [cueEnded_armed hc hp, flush_cue, dropArmed_cue]
  rfl

theorem cueEnded_owedRelease_kept (h : ∀ c, s.cue.current = some c → c.phase = .running) :
    (cueEnded r s).cue.owedRelease = s.cue.owedRelease := by
  rcases cuePhase_cases s with hc | ⟨c, hc, hp⟩ | ⟨c, hc, hp⟩
  · rw [cueEnded_none hc, flush_cue]
  · rw [h c hc] at hp
    exact absurd hp (by simp)
  · rw [cueEnded_running hc hp, flush_cue, cutRunning_cue]
    rfl

/-- A run cut in FLYING: the axis stops with the engine's demand and plan, the engine is idle and the claim held. -/
theorem cueEnded_flying (hr : r ≠ .fault) (hc : s.cue.current = some c) (hp : c.phase = .running)
    (hx : s.axis.state = .flying) :
    (cueEnded r s).axis = s.axis.stopping s.engine ∧ (cueEnded r s).engine = Engine.toIdle s.engine
      ∧ (cueEnded r s).cue.held = some ⟨c.runKey, c.box⟩ := by
  rw [cueEnded_running hc hp, flush_axis, flush_engine, flush_cue, cutRunning_cue]
  simp [cutRunning_flying c hr hx, CueUnit.cutOff]

end

/-! ### The entry into LINE-OFF (07 R143) -/

/-- The line interface at its entry into LINE-OFF. -/
def Line.turnedOff (l : Line) : Line :=
  { l with
    state := .lineOff, queue := [], slot := none, further := false, retry := none, onLine := none,
    offTimer := some Config.lineOffMs }

theorem Line.turnedOff_muted (l : Line) : l.turnedOff.Muted := ⟨.inl rfl, rfl, rfl, rfl⟩

theorem enterLineOff_eq (s : State) :
    enterLineOff s
      = ((cueEnded .line (s.withLine s.line.turnedOff)).withSync (SyncUnit.clearAnswers (SyncUnit.abandon s.sync))).withRoster
          { s.roster with presenceTimer := none } := by
  have hf := frame_cueEnded .line (s.withLine s.line.turnedOff)
  have hsync : (cueEnded .line (s.withLine s.line.turnedOff)).sync = s.sync := hf.block .sync (by decide)
  have hros : (cueEnded .line (s.withLine s.line.turnedOff)).roster = s.roster := hf.block .roster (by decide)
  rw [← hsync, ← hros]
  rfl

theorem frame_enterLineOff (s : State) :
    FrameBut [.sync, .cue, .engine, .axis, .roster, .line, .store] s (enterLineOff s) := by
  rw [enterLineOff_eq]
  have h1 := (frame_withLine s s.line.turnedOff).chain
    (ds := [.sync, .cue, .engine, .axis, .roster, .line, .store]) (frame_cueEnded .line _) (by decide) (by decide)
  exact (h1.chain (ds := [.sync, .cue, .engine, .axis, .roster, .line, .store]) (frame_withSync _ _) (by decide) (by decide)).chain
    (frame_withRoster _ _) (by decide) (by decide)

theorem enterLineOff_line (s : State) : (enterLineOff s).line = s.line.turnedOff := by
  rw [enterLineOff_eq, State.withRoster_line, State.withSync_line]
  exact cueEnded_muted .line s.line.turnedOff_muted

/-! ### Counting a spoiled post (07 R141, R144) -/

/-- The receive spoil count after a post that ended spoiled with this finding. -/
def rxAfter (finding : Option SpoilCause) (n : Nat) : Nat := if ownCheckFailed finding then n + 1 else n

theorem countSpoil_own {l : Line} {r : OutRef} (h : l.onLine = some (.own r)) (finding : Option SpoilCause) :
    countSpoil finding l
      = { l with
          onLine := none, retry := some r, txSpoil := l.txSpoil + 1, rxSpoil := rxAfter finding l.rxSpoil
          further := if r = .slot then false else l.further } := by
  simp [countSpoil, h, rxAfter]

theorem countSpoil_other {l : Line} (h : l.onLine = some .other) (finding : Option SpoilCause) :
    countSpoil finding l = { l with onLine := none, rxSpoil := rxAfter finding l.rxSpoil } := by
  simp [countSpoil, h, rxAfter]

theorem spoil_taken {s : State} (h : s.line.state = .on ∨ s.line.state = .lineOff) (finding : Option SpoilCause) :
    spoil finding s = spoilLimits s.line (s.withLine (countSpoil finding s.line)) := by
  rcases h with h | h <;> simp [spoil, h]

theorem spoilLimits_below {l : Line} {s : State} (h1 : s.line.txSpoil < 8) (h2 : s.line.rxSpoil < 8) :
    spoilLimits l s = s := by
  simp [spoilLimits, Config.spoilLimit, not_le.mpr h1, not_le.mpr h2]

/-- The transmit count alone at its limit enters LINE-OFF. -/
theorem spoilLimits_lineOff {l : Line} {s : State} (h1 : s.line.txSpoil ≠ l.txSpoil) (h8 : 8 ≤ s.line.txSpoil)
    (h2 : s.line.rxSpoil = l.rxSpoil) : spoilLimits l s = enterLineOff s := by
  have hr : (enterLineOff s).line.rxSpoil = l.rxSpoil := by
    rw [enterLineOff_line]
    exact h2
  simp [spoilLimits, Config.spoilLimit, h1, h8, hr]

/-- The receive count alone at its limit enters DEAF. -/
theorem spoilLimits_deaf {l : Line} {s : State} (h1 : s.line.txSpoil = l.txSpoil) (h2 : s.line.rxSpoil ≠ l.rxSpoil)
    (h8 : 8 ≤ s.line.rxSpoil) : spoilLimits l s = enterDeaf s := by
  simp [spoilLimits, Config.spoilLimit, h1, h2, h8]


/-! ### The entry into DEAF (07 R145) -/

/-- The line interface at its entry into DEAF. -/
def Line.deafened (l : Line) : Line :=
  { l with
    state := .deaf, queue := [], slot := none, further := false, retry := none, onLine := none, offTimer := none }

theorem Line.deafened_muted (l : Line) : l.deafened.Muted := ⟨.inr (.inl rfl), rfl, rfl, rfl⟩

/-- The sync unit at the entry into DEAF from a register state (02 R34, 07 R145). -/
def SyncUnit.deafened (u : SyncUnit) : SyncUnit := SyncUnit.clearAnswers (SyncUnit.endRound u)

theorem syncSetting_deafened (a : RegisterState) (u : SyncUnit) :
    (syncSetting a .stale u).deafened = u.deafened := by
  unfold syncSetting
  split
  · rfl
  · rw [if_neg (by simp)]
    split <;> rfl

/-- The station at its entry into DEAF, before its axis latches the fault. -/
def deafening (s : State) : State :=
  ((((s.withLine s.line.deafened).withReg { s.reg with state := .stale }).withRoster
      { rosterSetting s.reg.state .stale s.roster with presenceTimer := none }).withSync s.sync.deafened).withCue
    { s.cue with owed := [] }

theorem enterDeaf_eq (s : State) : enterDeaf s = detect { noFaults with deaf := true } (deafening s) := by
  have hsync := syncSetting_deafened s.reg.state s.sync
  unfold deafening
  rw [← hsync]
  simp only [enterDeaf, setRegister_eq]
  rfl

theorem frame_deafening (s : State) : FrameBut [.reg, .sync, .cue, .roster, .line] s (deafening s) :=
  ((((frame_withLine s _).chain (ds := [.reg, .sync, .cue, .roster, .line]) (frame_withReg _ _) (by decide) (by decide)).chain
    (ds := [.reg, .sync, .cue, .roster, .line]) (frame_withRoster _ _) (by decide) (by decide)).chain
    (ds := [.reg, .sync, .cue, .roster, .line]) (frame_withSync _ _) (by decide) (by decide)).chain (frame_withCue _ _) (by decide) (by decide)

/-- A muted line interface takes nothing of an entry into FAULTED. -/
theorem enterFaulted_muted {s : State} (h : s.line.Muted) (kinds : FaultSet) :
    (enterFaulted kinds s).line = s.line := by
  have hended : (faultCueEnded kinds s).line = s.line := by
    unfold faultCueEnded
    rcases cutRun_dropCue_cases .fault (s.withAxis (s.axis.faulting kinds)) with
      ⟨_, he⟩ | ⟨c, _, _, he⟩ | ⟨c, _, _, he⟩
    · simp [he]
    · rw [he, State.withAxis_line]
      have hl : (dropArmed c .fault true (s.withAxis (s.axis.faulting kinds))).line
          = lineDropping c .fault true (s.withAxis (s.axis.faulting kinds)) := by simp [dropArmed_eq]
      rw [hl, lineDropping, State.withAxis_line, h.entering, h.withdraw, lineGivingBack]
      simp only [if_true, h.offer]
      rw [ite_self]
    · rw [he, State.withAxis_line]
      simp [cutRunning_other c (.inl rfl), lineCutting, h.offer]
  have hflush : (flush (faultCueEnded kinds s)).line = s.line := by
    rw [flush_eq, State.withLine_line, lineFlushing, hended]
    split
    · rfl
    · exact h.offer _ _
  rw [enterFaulted_eq, State.askPresence_line, State.post_line, hflush, h.offer, h.requestPresence]

theorem enterFaulted_owed (kinds : FaultSet) (s : State) : (enterFaulted kinds s).cue.owed = s.cue.owed := by
  rw [enterFaulted_eq, State.askPresence_cue, State.post_cue, flush_cue]
  unfold faultCueEnded
  rcases cutRun_dropCue_cases .fault (s.withAxis (s.axis.faulting kinds)) with
    ⟨_, he⟩ | ⟨c, _, _, he⟩ | ⟨c, _, _, he⟩
  · simp [he]
  · simp [he, dropArmed_cue, CueUnit.dropped]
  · simp [he, cutRunning_cue, CueUnit.cutOff]

/-- What DEAF's fault leaves, in FAULTED already or newly. -/
theorem enterDeaf_axis {s : State} (hu : s.axis.state ≠ .unconfigured) :
    (enterDeaf s).axis.state = .faulted ∧ (enterDeaf s).axis.faults.deaf = true
      ∧ (enterDeaf s).line = s.line.deafened ∧ (enterDeaf s).cue.owed = []
      ∧ (s.axis.state ≠ .faulted →
          (enterDeaf s).cue.queue = [] ∧ (enterDeaf s).cue.current = none ∧ (enterDeaf s).axis.brake = .set) := by
  have hm : (deafening s).line.Muted := s.line.deafened_muted
  have hx : (deafening s).axis = s.axis := rfl
  rw [enterDeaf_eq]
  by_cases hf : s.axis.state = .faulted
  · rw [detect_faulted _ (by rw [hx]; exact hf)]
    refine ⟨by rw [addKinds_axis]; exact hf, by simp [FaultSet.union], ?_, rfl, fun hn => absurd hf hn⟩
    rw [addKinds_line, hm.requestPresence, ite_self]
    rfl
  · rw [detect_enters rfl (by rw [hx]; exact hf) (by rw [hx]; exact hu)]
    refine ⟨by rw [enterFaulted_axis], by rw [enterFaulted_axis]; simp [FaultSet.union], ?_, ?_, fun _ => ?_⟩
    · rw [enterFaulted_muted hm]
      rfl
    · rw [enterFaulted_owed]
      rfl
    · rw [enterFaulted_axis]
      exact ⟨(enterFaulted_cue _ _).2, (enterFaulted_cue _ _).1, Axis.command_brake _ _⟩

end Sys2Proof.Machine

open Sys2Proof Sys2Proof.Machine

/-- Settles O16: below the limits a spoil is a count; at the transmit limit it is the entry into LINE-OFF. -/
theorem spoiledPostIsRetriedUpToLineOff : Obligations.SpoiledPostIsRetriedUpToLineOff := by
  refine ⟨fun finding r s hs hon ho htx hrx => ?_, fun finding r s hs hon ho htx hfind => ?_⟩
  · have hex : exec (.postSpoiled finding) s = .next (event (spoil finding) s) := rfl
    have hrx' : rxAfter finding s.line.rxSpoil < 8 := by
      unfold rxAfter
      split <;> omega
    rw [event_calm _ hs, spoil_taken (.inl hon), countSpoil_own ho, spoilLimits_below htx hrx'] at hex
    generalize hl : ({ s.line with
      onLine := none, retry := some r, txSpoil := s.line.txSpoil + 1, rxSpoil := rxAfter finding s.line.rxSpoil
      further := if r = .slot then false else s.line.further } : Line) = l at hex
    have hq : (s.withLine l).line.reports = [] := by
      rw [State.withLine_line, ← hl]
      exact hs.2.1
    refine ⟨_, hex, ?_⟩
    rw [finish_line _ hq, State.withLine_line]
    subst hl
    refine ⟨rfl, rfl, rfl, ?_, rfl, rfl, (frame_withLine s _).finish hq⟩
    cases finding with
    | none => rfl
    | some c => cases c <;> rfl
  · have hex : exec (.postSpoiled finding) s = .next (event (spoil finding) s) := rfl
    have hrx : rxAfter finding s.line.rxSpoil = s.line.rxSpoil := by
      rcases hfind with rfl | rfl <;> rfl
    rw [event_calm _ hs, spoil_taken (.inl hon), countSpoil_own ho,
      spoilLimits_lineOff (by simp) (by simp [htx]) (by simpa using hrx)] at hex
    generalize hl : ({ s.line with
      onLine := none, retry := some r, txSpoil := s.line.txSpoil + 1, rxSpoil := rxAfter finding s.line.rxSpoil
      further := if r = .slot then false else s.line.further } : Line) = l at hex
    have hrep : l.reports = [] := by rw [← hl]; exact hs.2.1
    have hline := enterLineOff_line (s.withLine l)
    have hq : (enterLineOff (s.withLine l)).line.reports = [] := by
      rw [hline]
      exact hrep
    have hf : FrameBut [.sync, .cue, .engine, .axis, .roster, .line, .store] s (enterLineOff (s.withLine l)) :=
      (frame_withLine s l).chain (frame_enterLineOff _) (by decide) (by decide)
    have hE := enterLineOff_eq (s.withLine l)
    have hcue : (enterLineOff (s.withLine l)).cue
        = (cueEnded .line ((s.withLine l).withLine l.turnedOff)).cue := by
      rw [hE, State.withRoster_cue, State.withSync_cue]
      rfl
    have hax : (enterLineOff (s.withLine l)).axis
        = (cueEnded .line ((s.withLine l).withLine l.turnedOff)).axis := by
      rw [hE, State.withRoster_axis, State.withSync_axis]
      rfl
    have hsync : (enterLineOff (s.withLine l)).sync = SyncUnit.clearAnswers (SyncUnit.abandon s.sync) := by
      rw [hE, State.withRoster_sync, State.withSync_sync]
      rfl
    obtain ⟨hqueue, hcur, -, -⟩ := cueEnded_cue .line ((s.withLine l).withLine l.turnedOff)
    refine ⟨_, hex, ?_⟩
    rw [finish_line _ hq, hline, finish_queue hq, finish_current hq, finish_sync _ hq, finish_reg _ hq,
      finish_axis _ hq, finish_held hq, finish_roster _ hq, hcue, hax, hsync]
    refine ⟨rfl, rfl, rfl, rfl, hqueue, hcur, rfl, rfl, ?_, hf.block .reg (by decide), fun c hc hp hx => ?_, fun c hc hp => ?_,
      fun hc => ?_, fun hph => ?_, fun hph => ?_, hf.finish hq, fun c hc hp hx => ?_⟩
    · rw [hE, State.withRoster_roster]
    · exact cueEnded_axis_armed hc hp hx
    · rw [releaseKept, finish_owedRelease hq, hcue,
        cueEnded_owedRelease_armed (s := (s.withLine l).withLine l.turnedOff) hc hp]
      unfold releaseOwed
      exact if_congr (and_iff_left rfl) rfl rfl
    · rw [finish_owedRelease hq, hcue]
      exact cueEnded_owedRelease_kept hc
    · have ha : SyncUnit.abandon s.sync = s.sync := by
        rcases hph with h | h <;> simp [SyncUnit.abandon, h, Phase.inAttempt]
      rw [ha]
      rfl
    · have ha : SyncUnit.abandon s.sync = { s.sync with phase := .idle, changes := [], attemptTimer := none } := by
        rcases hph with h | h | h <;> simp [SyncUnit.abandon, h, Phase.inAttempt]
      rw [ha]
      rfl
    · obtain ⟨h1, -, h3⟩ := cueEnded_flying (r := .line) (s := (s.withLine l).withLine l.turnedOff) (by simp) hc hp hx
      rw [h1, h3]
      exact ⟨rfl, rfl, rfl, rfl⟩

/-- Settles O17: the receive count at its limit enters DEAF, which the axis latches. -/
theorem eighthBadPostEntersDeaf : Obligations.EighthBadPostEntersDeaf := by
  intro finding s hs ho hrx h1 h2 hu
  have hex : exec (.postSpoiled finding) s = .next (event (spoil finding) s) := rfl
  have hrx' : rxAfter finding s.line.rxSpoil = 8 := by
    have hfail : ownCheckFailed finding = true := by
      unfold ownCheckFailed
      split
      · exact absurd rfl h2
      · exact absurd rfl h1
      · rfl
    rw [rxAfter, if_pos hfail, hrx]
  rw [event_calm _ hs.1, spoil_taken hs.2, countSpoil_other ho] at hex
  generalize hl : ({ s.line with onLine := none, rxSpoil := rxAfter finding s.line.rxSpoil } : Line) = l at hex
  have htx : l.txSpoil = s.line.txSpoil := by rw [← hl]
  have hrl : l.rxSpoil = 8 := by rw [← hl]; exact hrx'
  rw [spoilLimits_deaf (s := s.withLine l) htx (by rw [State.withLine_line]; omega) hrl.ge] at hex
  obtain ⟨hst, hde, hline, howed, hcue⟩ := enterDeaf_axis (s := s.withLine l) hu
  have hq : (enterDeaf (s.withLine l)).line.reports = [] := by
    rw [hline, State.withLine_line, ← hl]
    exact hs.1.2.1
  have hd : FrameBut [.cue, .engine, .axis, .line] (deafening (s.withLine l)) (enterDeaf (s.withLine l)) := by
    rw [enterDeaf_eq]
    exact frame_detect _ _
  have hf : FrameBut [.reg, .sync, .cue, .engine, .axis, .roster, .line] s (enterDeaf (s.withLine l)) :=
    ((frame_withLine s l).chain (ds := [.reg, .sync, .cue, .engine, .axis, .roster, .line]) (frame_deafening _) (by decide) (by decide)).chain hd (by decide) (by decide)
  refine ⟨_, hex, ?_⟩
  rw [finish_line _ hq, hline, finish_reg _ hq, finish_axis _ hq, finish_sync _ hq, finish_roster _ hq,
    finish_owed hq, finish_queue hq, finish_current hq]
  refine ⟨rfl, rfl, rfl, hd.block .reg (by decide), hst, hde, ?_, ?_, howed, hcue, hf.finish hq⟩
  · rw [show (enterDeaf (s.withLine l)).sync = _ from hd.block .sync (by decide)]
    rfl
  · rw [show (enterDeaf (s.withLine l)).roster = _ from hd.block .roster (by decide)]
    rfl

end

section
/-! Contention on the rig line, and what a post carries when it begins. -/

namespace Sys2Proof.Machine

/-! ### The post to enter (07 R147) -/

/-- Lower class first, then older age. -/
def Candidate.Ahead (c d : Candidate) : Prop := c.cls < d.cls ∨ c.cls = d.cls ∧ c.age ≤ d.age

theorem Candidate.before_iff (c d : Candidate) : Candidate.before c d = true ↔ c.Ahead d := by
  simp [Candidate.before, Candidate.Ahead]

theorem Candidate.Ahead.refl (c : Candidate) : c.Ahead c := .inr ⟨rfl, Nat.le_refl _⟩

theorem Candidate.Ahead.trans {a b c : Candidate} (h1 : a.Ahead b) (h2 : b.Ahead c) : a.Ahead c := by
  unfold Candidate.Ahead at *
  omega

theorem Candidate.Ahead.of_not {a b : Candidate} (h : ¬a.Ahead b) : b.Ahead a := by
  unfold Candidate.Ahead at *
  omega

/-- Among some candidates the first is one of them that none goes ahead of. -/
theorem firstCandidate_spec (cs : List Candidate) :
    cs = [] ∧ firstCandidate cs = none
      ∨ ∃ c ∈ cs, firstCandidate cs = some c ∧ ∀ d ∈ cs, c.Ahead d := by
  induction cs with
  | nil => exact .inl ⟨rfl, rfl⟩
  | cons e es ih =>
    right
    rcases ih with ⟨rfl, hn⟩ | ⟨c, hc, hf, hall⟩
    · exact ⟨e, by simp, by simp [firstCandidate], by simpa using Candidate.Ahead.refl e⟩
    · by_cases hb : e.Ahead c
      · refine ⟨e, by simp, by simp [firstCandidate, hf, (Candidate.before_iff e c).mpr hb], fun d hd => ?_⟩
        rcases List.mem_cons.mp hd with rfl | hd
        · exact Candidate.Ahead.refl _
        · exact hb.trans (hall d hd)
      · have hnb : Candidate.before e c = false := by
          simpa using (Candidate.before_iff e c).not.mpr hb
        refine ⟨c, by simp [hc], by simp [firstCandidate, hf, hnb], fun d hd => ?_⟩
        rcases List.mem_cons.mp hd with rfl | hd
        · exact Candidate.Ahead.of_not hb
        · exact hall d hd

theorem Line.mem_candidates (l : Line) (c : Candidate) :
    c ∈ Line.candidates l ↔ (∃ o ∈ l.queue, c = ⟨Post.cls o.post, o.age, .queued o.age⟩)
      ∨ ∃ p, l.slot = some p ∧ c = ⟨3, p.age, .slot⟩ := by
  unfold Line.candidates
  cases l.slot <;> simp [eq_comm]

/-- A retry post that the station still holds is the one it enters. -/
theorem Line.select_retry {l : Line} {r : OutRef} (hr : l.retry = some r)
    (h : ∃ c ∈ Line.candidates l, c.ref = r) : ∃ c, Line.select l = some c ∧ c.ref = r := by
  obtain ⟨c, hc, hcr⟩ := h
  cases hf : (Line.candidates l).find? (fun c => c.ref == r) with
  | none =>
    have := List.find?_eq_none.mp hf c hc
    simp [hcr] at this
  | some d =>
    refine ⟨d, by simp [Line.select, hr, hf], ?_⟩
    simpa using List.find?_some hf

theorem Line.select_first {l : Line} (hr : l.retry = none) : Line.select l = firstCandidate (Line.candidates l) := by
  simp [Line.select, hr]

/-! ### A post begins (07 R136) -/

theorem isTableStartOf_iff (a : Nat) (o : OutPost) :
    isTableStartOf a o = true ↔ o.age = a ∧ ∃ q g n, o.post = .tableStart q g n := by
  unfold isTableStartOf
  cases hp : o.post <;> simp

/-- The queue with the TABLE-START of age `a` stamped (02 R32). -/
def stampedQueue (r : AirRegister) (a : Nat) (q : List OutPost) : List OutPost :=
  q.map (fun o => if o.age = a then { o with post := stampTableStart r o.post } else o)

theorem stampedQueue_find (r : AirRegister) (a : Nat) (q : List OutPost) {o : OutPost}
    (h : q.find? (fun x => x.age == a) = some o) :
    (stampedQueue r a q).find? (fun x => x.age == a) = some { o with post := stampTableStart r o.post } := by
  have hage : o.age = a := by simpa using List.find?_some h
  have hcomp : ((fun x : OutPost => x.age == a)
      ∘ fun o : OutPost => if o.age = a then { o with post := stampTableStart r o.post } else o)
      = fun x : OutPost => x.age == a := by
    funext x
    simp only [Function.comp]
    split <;> rfl
  rw [stampedQueue, List.find?_map, hcomp, h, Option.map_some, if_pos hage]

/-- The state whose own post of age `a` begins on the line. -/
theorem stampQueued_line (a : Nat) (s : State) :
    (stampQueued a s).line.onLine = s.line.onLine ∧ (stampQueued a s).line.reports = s.line.reports
      ∧ (stampQueued a s).line.queue.length = s.line.queue.length
      ∧ FrameBut [.line, .sync] s (stampQueued a s) := by
  unfold stampQueued
  split
  · refine ⟨rfl, rfl, ?_, (frame_withLine s _).chain (frame_withSync _ _) (by decide) (by decide)⟩
    simp
  · exact ⟨rfl, rfl, rfl, .refl _ s⟩

theorem stampQueued_start {a : Nat} {s : State} {o : OutPost}
    (h : s.line.queue.find? (fun x => x.age == a) = some o) {q n : Nat} {g : Word} (hp : o.post = .tableStart q g n) :
    (stampQueued a s).line.queue.find? (fun x => x.age == a)
        = some { o with post := .tableStart q s.reg.generation s.reg.table.length }
      ∧ (stampQueued a s).sync = { s.sync with answer := some ⟨some ⟨s.reg.generation, s.reg.table⟩⟩ } := by
  have hany : s.line.queue.any (isTableStartOf a) = true := by
    refine List.any_eq_true.mpr ⟨o, List.mem_of_find?_eq_some h, (isTableStartOf_iff a o).mpr ⟨?_, q, g, n, hp⟩⟩
    simpa using List.find?_some h
  have hf := stampedQueue_find s.reg a s.line.queue h
  rw [hp] at hf
  unfold stampQueued
  rw [if_pos hany]
  exact ⟨hf, rfl⟩

theorem stampQueued_other {a : Nat} {s : State} {o : OutPost} (hn : ∀ q g n, o.post ≠ .tableStart q g n)
    (ho : ∀ x ∈ s.line.queue, x.age = a → x = o) : stampQueued a s = s := by
  refine if_neg (fun hany => ?_)
  obtain ⟨x, hx, hxs⟩ := List.any_eq_true.mp hany
  obtain ⟨hage, q, g, n, hp⟩ := (isTableStartOf_iff a x).mp hxs
  obtain rfl := ho x hx hage
  exact hn q g n hp

theorem clampTo_eq {lo hi : Int} (h : lo ≤ hi) (v : Int) : clampTo lo hi v = nearestIn lo hi v := by
  unfold clampTo nearestIn
  split
  · omega
  · split <;> omega

theorem winsOver_iff (cls strap : Nat) (o : Contender) :
    winsOver cls strap o = true ↔ cls < o.cls ∨ cls = o.cls ∧ strap ≤ o.sender := by
  simp [winsOver]

theorem contend_wins {others : List Contender} {s : State} {c : Candidate} (hon : s.line.state = .on)
    (ho : s.line.onLine = none) (hc : Line.select s.line = some c)
    (hw : ∀ o ∈ others, c.cls < o.cls ∨ c.cls = o.cls ∧ s.strap ≤ o.sender) :
    contend others s = beginOwn c.ref s := by
  have he : entered s = some c := by simp [entered, hon, hc]
  have hall : others.all (winsOver c.cls s.strap) = true :=
    List.all_eq_true.mpr (fun o h => (winsOver_iff _ _ _).mpr (hw o h))
  simp [contend, ho, he, hall]

theorem contend_loses {others : List Contender} {s : State} {c : Candidate} (hon : s.line.state = .on)
    (ho : s.line.onLine = none) (hc : Line.select s.line = some c)
    (hw : ∃ o ∈ others, o.cls < c.cls ∨ c.cls = o.cls ∧ o.sender < s.strap) :
    contend others s = s.withLine { s.line with onLine := some .other } := by
  have he : entered s = some c := by simp [entered, hon, hc]
  obtain ⟨o, hmem, hlt⟩ := hw
  have hall : ¬others.all (winsOver c.cls s.strap) = true := by
    intro h
    have := (winsOver_iff _ _ _).mp (List.all_eq_true.mp h o hmem)
    omega
  simp [contend, ho, he, hall, beginOther, hon]

end Sys2Proof.Machine

open Sys2Proof Sys2Proof.Machine

/-- Settles O15: the choice among candidates, then what the chosen post carries. -/
theorem postBeginArbitrates : Obligations.PostBeginArbitrates := by
  refine ⟨fun l => ⟨fun a hr h => ?_, fun hr h => ?_, fun hr hq hs => ?_, fun hr h => ?_⟩, fun others s hs hon ho =>
    ⟨fun c hc hw => ?_, fun c hc hw => ?_, fun p0 hc hp0 hw => ?_⟩⟩
  · obtain ⟨o, ho, rfl⟩ := h
    exact Line.select_retry hr ⟨_, (Line.mem_candidates l _).mpr (.inl ⟨o, ho, rfl⟩), rfl⟩
  · obtain ⟨p, hp⟩ := Option.isSome_iff_exists.mp h
    exact Line.select_retry hr ⟨_, (Line.mem_candidates l _).mpr (.inr ⟨p, hp, rfl⟩), rfl⟩
  · rw [Line.select_first hr]
    simp [Line.candidates, hq, hs, firstCandidate]
  · rw [Line.select_first hr]
    rcases firstCandidate_spec (Line.candidates l) with ⟨hn, -⟩ | ⟨c, hc, hf, hall⟩
    · exfalso
      unfold Line.candidates at hn
      rcases h with h | h
      · simp [h] at hn
      · obtain ⟨p, hp⟩ := Option.isSome_iff_exists.mp h
        simp [hp] at hn
    · exact ⟨c, hf, (Line.mem_candidates l c).mp hc,
        fun o ho => hall _ ((Line.mem_candidates l _).mpr (.inl ⟨o, ho, rfl⟩)),
        fun p hp => hall _ ((Line.mem_candidates l _).mpr (.inr ⟨p, hp, rfl⟩))⟩
  · have hex : exec (.postBegin others) s = .next (event (contend others) s) := rfl
    rw [event_calm _ hs, contend_wins hon ho hc hw] at hex
    cases hr : c.ref with
    | slot =>
      rw [hr] at hex
      have hq : (beginOwn .slot s).line.reports = [] := hs.2.1
      refine ⟨_, hex, ?_, ?_, FrameBut.finish ?_ hq, fun a o h => absurd h (by simp)⟩
      · rw [finish_line _ hq]
        rfl
      · rw [finish_line _ hq]
        rfl
      · exact ((frame_withLine s _).chain (ds := [.line, .sync]) (frame_withLine _ _) (by decide) (by decide))
    | queued a =>
      rw [hr] at hex
      obtain ⟨h1, h2, h3, h4⟩ := stampQueued_line a (s.withLine { s.line with onLine := some (.own (.queued a)) })
      have hq : (beginOwn (.queued a) s).line.reports = [] := h2.trans hs.2.1
      refine ⟨_, hex, ?_, ?_, ((frame_withLine s _).chain (ds := [.line, .sync]) h4 (by decide) (by decide)).finish hq,
        fun b o hb hfind => ?_⟩
      · rw [finish_line _ hq]
        exact h1
      · rw [finish_line _ hq]
        exact h3
      · obtain rfl : a = b := by simpa using hb
        rw [finish_line _ hq, finish_sync _ hq]
        refine ⟨fun q g n hp => ?_, fun hn hu => ?_⟩
        · exact stampQueued_start (s := s.withLine { s.line with onLine := some (.own (.queued a)) }) hfind hp
        · have hsame : beginOwn (.queued a) s = s.withLine { s.line with onLine := some (.own (.queued a)) } :=
            stampQueued_other hn hu
          have hline : (finish (beginOwn (.queued a) s)).line = { s.line with onLine := some (.own (.queued a)) } := by
            rw [finish_line _ hq, hsame]
            rfl
          refine ⟨by rw [hsame]; rfl, by rw [hsame]; rfl, ?_⟩
          rw [frameOnLine, postOnLine, hline]
          simp only [hfind, Option.map_some, Frame.of]
          rw [finish_strap _ hq, hsame]
          rfl
  · have hex : exec (.postBegin others) s = .next (event (contend others) s) := rfl
    rw [event_calm _ hs, contend_loses hon ho hc hw] at hex
    exact ⟨_, hex, finish_line _ hs.2.1, (frame_withLine s _).finish hs.2.1⟩
  · have hex : exec (.postBegin others) s = .next (event (contend others) s) := rfl
    rw [event_calm _ hs, contend_wins hon ho hc hw] at hex
    have hq : (beginOwn .slot s).line.reports = [] := hs.2.1
    have hline : (finish (beginOwn .slot s)).line
        = { s.line with onLine := some (.own .slot), slot := some ⟨p0.age, some (presenceNow s)⟩ } := by
      rw [finish_line _ hq]
      simp only [beginOwn, State.withLine_line, hp0, Option.map_some]
    have hf : FrameBut [.line] s (finish (beginOwn .slot s)) :=
      FrameBut.finish ((frame_withLine s _).chain (ds := [.line]) (frame_withLine _ _) (by decide) (by decide)) hq
    refine ⟨_, presenceNow s, hex, by rw [hline], by rw [hline], rfl, rfl, rfl, rfl, rfl, rfl, rfl,
      clampTo_eq (by decide) _, clampTo_eq (by decide) _, rfl, rfl, rfl, rfl, rfl, rfl, ?_, by rw [hline], hf⟩
    rw [frameOnLine, postOnLine, hline, hf.strap]
    rfl

end

section
/-! Posts that the roster alone takes, the owed posts, HALT and CLEAR-STOP. -/

namespace Sys2Proof.Machine

/-! ### Deliveries to the roster alone -/

/-- Which deliveries the roster alone takes (08 R154, R161, R162). -/
theorem exec_rosterAlone {n : Fin 48} {i : Instr} {s : State} (hs : Receives s)
    (hi : (∃ raw, i = .unfittingPost n raw) ∨ (∃ x, i = .notice n x) ∨ ∃ a b c, i = .verified n a b c) :
    ∃ p, exec i s = .next (finish (heard n p s)) := by
  rcases hi with ⟨raw, rfl⟩ | ⟨x, rfl⟩ | ⟨a, b, c, rfl⟩
  · exact ⟨_, congrArg Host.Outcome.next (deliver_calm n none id s hs)⟩
  · exact ⟨_, congrArg Host.Outcome.next (deliver_calm n _ id s hs)⟩
  · exact ⟨_, congrArg Host.Outcome.next (deliver_calm n _ id s hs)⟩

theorem Line.ownRef_none {l : Line} {n m : Nat} (h : n ≠ m ∨ l.onLine = some .other) (p : Option Post) :
    Line.ownRef l (n == m) p = none := by
  rcases h with h | h
  · rw [beq_false_of_ne h]
    exact Line.ownRef_other l p
  · exact Line.ownRef_twin l _ p h

theorem Line.ownRef_own {l : Line} {n m : Nat} {r : OutRef} (h : n = m) (hl : l.onLine = some (.own r))
    (p : Option Post) : Line.ownRef l (n == m) p = some r := by
  rw [beq_iff_eq.mpr h]
  exact Line.ownRef_sent l r p hl

/-! ### The owed posts sent again (03 R70) -/

theorem resend_line (s : State) (o : OwedPost) :
    (resend s o).line = if owedApplies s o then Line.offer s.line o.post o.use else s.line := by
  unfold resend
  split <;> rfl

theorem frame_resend (s : State) (o : OwedPost) : FrameBut [.line] s (resend s o) :=
  .ite (frame_postFor s o.use o.post) (.refl _ s)

theorem frame_resendAll (os : List OwedPost) (s : State) : FrameBut [.line] s (os.foldl resend s) := by
  induction os generalizing s with
  | nil => exact .refl _ s
  | cons o os ih => exact (frame_resend s o).trans (ih _)

/-- Owed posts that no claim is among apply as the table holds their keys. -/
theorem owedApplies_eq {s t : State} (ht : t.reg = s.reg) {o : OwedPost}
    (h : (∃ f g m st r, o.post = .cut f g m st r) ∨ (∃ f g m, o.post = .done f g m) ∨ ∃ k, o.post = .release k) :
    owedApplies t o = stillOwed s o := by
  rcases h with ⟨f, g, m, st, r, h⟩ | ⟨f, g, m, h⟩ | ⟨k, h⟩
  · simp [owedApplies, stillOwed, h]
  · simp [owedApplies, stillOwed, h]
  · simp [owedApplies, stillOwed, h, hasKey, ht]

theorem enqueued_resendAll {s : State} (os : List OwedPost)
    (hos : ∀ o ∈ os, (∃ f g m st r, o.post = .cut f g m st r) ∨ (∃ f g m, o.post = .done f g m)
      ∨ ∃ k, o.post = .release k) {t : State} {ps : List Post} (ht : t.reg = s.reg) (hon : t.line.state = .on)
    (hroom : t.line.queue.length + os.length ≤ 8) (he : Line.Enqueued s.line t.line ps) :
    Line.Enqueued s.line (os.foldl resend t).line (ps ++ (os.filter (stillOwed s)).map (·.post)) := by
  induction os generalizing t ps with
  | nil => simpa using he
  | cons o os ih =>
    have hap := owedApplies_eq ht (hos o (by simp))
    have hos' := fun x hx => hos x (List.mem_cons_of_mem o hx)
    have hreg : (resend t o).reg = s.reg := Eq.trans (show (resend t o).reg = t.reg from (frame_resend t o).block .reg (by decide)) ht
    rw [List.length_cons] at hroom
    by_cases hst : stillOwed s o = true
    · have hl : (resend t o).line = Line.offer t.line o.post o.use := by rw [resend_line, hap, if_pos hst]
      have hlen : (Line.offer t.line o.post o.use).queue.length = t.line.queue.length + 1 := by
        rw [Line.offer_room _ _ _ (.inl hon) (by simp only [Config.maxPosts]; omega)]
        simp
      have := ih hos' hreg (by rw [hl]; simpa using hon) (by rw [hl, hlen]; omega)
        (by rw [hl]; exact he.offer o.post o.use (.inl hon) (by omega))
      simpa [hst] using this
    · have hl : (resend t o).line = t.line := by rw [resend_line, hap, if_neg hst]
      have := ih hos' hreg (by rw [hl]; exact hon) (by rw [hl]; omega) (by rw [hl]; exact he)
      simpa [hst] using this

/-- The state in which a station's own delivery finds its owed posts: heard, with none owed any more. -/
def owedTaken (n : Fin 48) (p : Option Post) (s : State) : State :=
  (heard n p s).withCue { s.cue with owed := [] }

/-- At the delivery of its own post from the queue a station sends the owed posts again. -/
theorem takeDelivery_resends {n : Fin 48} {p : Option Post} {a : Nat} {s : State} (hn : n.val = s.strap)
    (ho : s.line.onLine = some (.own (.queued a))) :
    takeDelivery n p id s = s.cue.owed.foldl resend (owedTaken n p s) := by
  have hown := Line.ownRef_own hn ho p
  have htake : takeDelivery n p id s = resendOwed s.cue.owed.length (heard n p s) := by
    unfold takeDelivery
    rw [hown]
    simp only [OutRef.inQueue, if_true, heard, hown]
    rfl
  rw [htake, resendOwed, heard_cue, List.take_length, List.drop_length]
  rfl

/-! ### HALT (03 R67) -/

/-- The posts of the current cue's end and of the flush. -/
def endedPosts (r : CutReason) (s : State) : List Post :=
  (match s.cue.current with
    | none => []
    | some c =>
      match c.phase with
      | .armed => dropPosts c r true s
      | .running => [cutPost c r s]) ++ flushPosts s

theorem flushPosts_congr {s t : State} (h : t.cue.queue = s.cue.queue) (hs : t.strap = s.strap)
    (hf : t.flyer = s.flyer) : flushPosts t = flushPosts s := by
  rw [flushPosts, flushPosts, h, hs, hf]

theorem Posting.cueEnded {s t : State} (h : Posting s t []) (r : CutReason) :
    Posting s (cueEnded r t) (endedPosts r t) := by
  unfold endedPosts
  rcases cuePhase_cases t with hc | ⟨c, hc, hp⟩ | ⟨c, hc, hp⟩
  · rw [cueEnded_none hc, hc]
    exact h.flush (by simp)
  · have hf := frame_dropArmed c r true t
    have hl := dropPosts_length c r true t
    have hq : flushPosts (Machine.dropArmed c r true t) = flushPosts t :=
      flushPosts_congr (by rw [dropArmed_cue]; rfl) hf.strap hf.flyer
    rw [cueEnded_armed hc hp, hc]
    simp only [hp, ← hq]
    exact (h.dropArmed c r true).flush (by omega)
  · have hf := frame_cutRunning c r t
    have hq : flushPosts (Machine.cutRunning c r t) = flushPosts t :=
      flushPosts_congr (by rw [cutRunning_cue]; rfl) hf.strap hf.flyer
    rw [cueEnded_running hc hp, hc]
    simp only [hp, ← hq]
    exact (h.cutRunning c r (by simp)).flush (by simp)

theorem takeHalt_hit {scope : Nat} {s : State} (h : 1 ≤ scope ∧ scope ≤ 15 ∧ scope = s.flyer ∨ scope = 255)
    (hu : s.axis.state ≠ .unconfigured) :
    takeHalt scope s
      = (Machine.cueEnded .halt s).withCue { (Machine.cueEnded .halt s).cue with
          showStop := if scope = 255 then true else s.cue.showStop } := by
  have hill : haltIllCoded scope = false := by
    rcases h with ⟨h1, h2, -⟩ | h
    · simp [haltIllCoded, h1, h2]
    · simp [haltIllCoded, absentByte, h]
  have hhit : scopeHits scope s.flyer = true := by
    rcases h with ⟨-, -, h⟩ | h
    · simp [scopeHits, ← h]
    · simp [scopeHits, absentByte, h]
  have hstop := (cueEnded_cue .halt s).2.2.1
  have hx : (s.axis.state == AxisState.unconfigured) = false := by simpa using hu
  unfold takeHalt
  simp only [hill, hhit, hx, absentByte]
  by_cases h255 : scope = 255
  · simp only [h255]
    rfl
  · simp only [h255, if_false, ← hstop]
    rfl

theorem takeHalt_miss {scope : Nat} {s : State} (h1 : scope ≠ s.flyer) (h2 : scope ≠ 255) : takeHalt scope s = s := by
  have hhit : scopeHits scope s.flyer = false := by simp [scopeHits, absentByte, h1, h2]
  simp [takeHalt, hhit]

end Sys2Proof.Machine

open Sys2Proof Sys2Proof.Machine

/-- Settles O18: the envelope of every delivery, and the owed posts by induction on their list. -/
theorem rosterAloneTakes : Obligations.RosterAloneTakes := by
  refine ⟨fun n i s hs hi => ?_, fun n x a s hpow hrep hage hon hn ho hroom => ⟨fun hos => ?_, fun k b u hk hno hc => ?_⟩⟩
  · obtain ⟨p, hex⟩ := exec_rosterAlone hs hi
    have hq := (Posting.heard hs.1 n p).quiet
    refine ⟨_, hex, ?_⟩
    rw [finish_roster _ hq, finish_line _ hq, heard_roster, Roster.entry_put_same, heard_line]
    refine ⟨rfl, rfl, fun m hm => Roster.entry_put_other _ n _ m hm, rfl, rfl, fun h => ?_, fun b h1 h2 => ?_,
      fun h1 h2 => ?_, (frame_heard n p s).finish hq⟩
    · rw [Line.ownRef_none h]
      exact ⟨rfl, rfl, rfl, rfl⟩
    · rw [Line.ownRef_own h1 h2]
      exact ⟨rfl, rfl, rfl, fun hr => if_pos hr⟩
    · rw [Line.ownRef_own h1 h2]
      exact ⟨rfl, rfl, rfl, rfl, fun hr => if_pos hr⟩
  · have hex : exec (.notice n x) s = .next (deliver n (some (.notice x)) id s) := rfl
    rw [deliver_taken n _ id s hpow (.inl hon), takeDelivery_resends hn ho] at hex
    have henq := Line.enqueued_heard s.line (Line.ownRef s.line (n.val == s.strap) (some (.notice x))) hrep hage
    have hlen := Line.afterDelivery_length s.line (Line.ownRef s.line (n.val == s.strap) (some (.notice x)))
    have hall := enqueued_resendAll (s := s) (t := owedTaken n (some (.notice x)) s) s.cue.owed hos rfl
      (by simpa [owedTaken] using hon) (by simp only [owedTaken, State.withCue_line, heard_line]; omega) henq
    have hq := hall.quiet
    have hf := frame_resendAll s.cue.owed (owedTaken n (some (.notice x)) s)
    have hfr : FrameBut [.cue, .roster, .line] s (s.cue.owed.foldl resend (owedTaken n (some (.notice x)) s)) :=
      ((frame_heard n _ s).chain (ds := [.cue, .roster, .line]) (frame_withCue _ _) (by decide) (by decide)).chain hf (by decide) (by decide)
    refine ⟨_, hex, ?_, ?_, hfr.finish hq⟩
    · rw [finish_owed hq, CueUnit.sameBut.owed (hf.block .cue (by decide))]
      rfl
    · refine newPosts_of_enqueued s _ _ ?_
      rw [finish_line _ hq]
      simpa using hall
  · have hex : exec (.notice n x) s = .next (deliver n (some (.notice x)) id s) := rfl
    rw [deliver_taken n _ id s hpow (.inl hon), takeDelivery_resends hn ho, hk] at hex
    simp only [List.foldl_cons, List.foldl_nil] at hex
    have henq := Line.enqueued_heard s.line (Line.ownRef s.line (n.val == s.strap) (some (.notice x))) hrep hage
    have hlen := Line.afterDelivery_length s.line (Line.ownRef s.line (n.val == s.strap) (some (.notice x)))
    rw [hk, List.length_singleton] at hroom
    have hclaim : Line.hasClaim (owedTaken n (some (.notice x)) s).line = false := by
      refine List.any_eq_false.mpr (fun o ho' => ?_)
      have hm := hno o (Line.afterDelivery_sub _ _ o ho')
      split
      · rename_i k' b' hp
        exact absurd hp (hm k' b')
      · simp
    have happ : owedApplies (owedTaken n (some (.notice x)) s) ⟨.claim k b, u⟩ = !hasEntry s.reg.table k b := by
      obtain ⟨c, hcur, hp, hkey⟩ := hc
      have hcur' : (owedTaken n (some (.notice x)) s).cue.current = some c := hcur
      simp only [owedApplies, hclaim, hcur', hp, hkey]
      simp [owedTaken]
    have hline := resend_line (owedTaken n (some (.notice x)) s) ⟨.claim k b, u⟩
    rw [happ] at hline
    have hnew : Line.Enqueued s.line (resend (owedTaken n (some (.notice x)) s) ⟨.claim k b, u⟩).line
        (if hasEntry s.reg.table k b = true then [] else [.claim k b]) := by
      rw [hline]
      cases hasEntry s.reg.table k b
      · exact henq.offer (.claim k b) u (.inl (by simpa using hon)) (by omega)
      · exact henq
    have hq := hnew.quiet
    have hf := frame_resend (owedTaken n (some (.notice x)) s) ⟨.claim k b, u⟩
    have hfr : FrameBut [.cue, .roster, .line] s (resend (owedTaken n (some (.notice x)) s) ⟨.claim k b, u⟩) :=
      ((frame_heard n _ s).chain (ds := [.cue, .roster, .line]) (frame_withCue _ _) (by decide) (by decide)).chain hf (by decide) (by decide)
    refine ⟨_, hex, ?_, ?_, hfr.finish hq⟩
    · rw [finish_owed hq, CueUnit.sameBut.owed (hf.block .cue (by decide))]
      rfl
    · refine newPosts_of_enqueued s _ _ ?_
      rw [finish_line _ hq]
      exact hnew

/-- Settles O19: a HALT that hits is the current cue's end and the flush; CLEAR-STOP is a mark and a withdrawal. -/
theorem haltStopsAndClearStopClears : Obligations.HaltStopsAndClearStopClears := by
  refine ⟨fun n scope reason s hs hu => ⟨fun h => ?_, fun h1 h2 => ?_⟩, fun n s hs => ?_⟩
  · have hex : exec (.halt n scope reason) s
        = .next (deliver n (some (.halt scope reason)) (takeHalt scope) s) := rfl
    rw [deliver_calm n _ _ s hs] at hex
    generalize hv : heard n (some (.halt scope reason)) s = v at hex
    have hvf : FrameBut [.roster, .line] s v := by rw [← hv]; exact frame_heard n _ s
    have hvc : v.cue = s.cue := by rw [← hv]; rfl
    have hvx : v.axis = s.axis := by rw [← hv]; rfl
    have hve : v.engine = s.engine := by rw [← hv]; rfl
    have hvr : v.reg = s.reg := by rw [← hv]; rfl
    have hvl : v.line.state = s.line.state := by rw [← hv]; simp
    rw [takeHalt_hit (s := v) (by rw [hvf.flyer]; exact h) (by rw [hvx]; exact hu)] at hex
    have hpost : Posting s (Machine.cueEnded .halt v) (endedPosts .halt v) := by
      rw [← hv]
      exact (Posting.heard hs.1 n _).cueEnded .halt
    have hpost' := hpost.withCue { (Machine.cueEnded .halt v).cue with
      showStop := if scope = 255 then true else v.cue.showStop }
    have hq := hpost'.quiet
    obtain ⟨hqueue, hcur, -, -⟩ := cueEnded_cue .halt v
    have hfr : FrameBut [.cue, .engine, .axis, .roster, .line, .store] s (Machine.cueEnded .halt v) :=
      hvf.chain (frame_cueEnded .halt v) (by decide) (by decide)
    refine ⟨_, hex, ?_⟩
    rw [finish_current hq, finish_queue hq, finish_showStop hq, finish_axis _ hq, finish_engine _ hq, finish_held hq,
      State.withCue_cue, State.withCue_axis, State.withCue_engine]
    refine ⟨hcur, hqueue, by rw [hvc], fun hne => ?_, fun c hc hp hx => ⟨?_, ?_⟩, fun c hc hp hl => ?_,
      fun c hc hp hx => ?_, fun hc => ?_, (hfr.chain (frame_withCue _ _) (by decide) (by decide)).finish hq⟩
    · refine hpost'.finish.also (List.mem_append_right _ ?_)
      rw [flushPosts, if_neg (by simpa [hvc] using hne), hvc, hvf.strap, hvf.flyer]
      exact List.mem_singleton.mpr rfl
    · rw [cueEnded_axis_armed (by rw [hvc, hc]) hp (by rw [hvx, hx]), hvx]
    · refine hpost'.finish.also (List.mem_append_left _ ?_)
      rw [hvc, hc]
      simp only [hp, dropPosts, if_true, hvf.flyer]
      exact List.mem_append_left _ (List.mem_singleton.mpr rfl)
    · rw [releaseKept, finish_owedRelease hq]
      have hg : givesBack v c ↔ givesBack s c := by
        unfold givesBack
        rw [hvc, hvr, hvf.isLead]
      refine (cueEnded_owedRelease_armed (by rw [hvc, hc]) hp).trans ?_
      exact if_congr ((and_iff_left (by rw [hvl, hl])).trans hg) rfl (by rw [hvc])
    · obtain ⟨h1, h2, h3⟩ := cueEnded_flying (r := .halt) (by simp) (by rw [hvc, hc]) hp (by rw [hvx, hx])
      rw [h1, h2, h3, hvx, hve]
      refine ⟨rfl, rfl, rfl, rfl, rfl, hpost'.finish.also (List.mem_append_left _ ?_)⟩
      rw [hvc, hc]
      simp only [hp, cutPost, hvf.flyer, hve]
      exact List.mem_singleton.mpr rfl
    · rw [cueEnded_none (by rw [hvc, hc]), flush_axis, flush_engine, hvx, hve]
      exact ⟨rfl, rfl⟩
  · have hex : exec (.halt n scope reason) s
        = .next (deliver n (some (.halt scope reason)) (takeHalt scope) s) := rfl
    rw [deliver_calm n _ _ s hs, takeHalt_miss (s := heard n (some (.halt scope reason)) s) h1 h2] at hex
    exact ⟨_, hex, (frame_heard n _ s).finish (Posting.heard hs.1 n _).quiet⟩
  · have hex : exec (.clearStop n) s = .next (deliver n (some .clearStop) takeClearStop s) := rfl
    rw [deliver_calm n _ _ s hs] at hex
    have hpost := ((Posting.heard hs.1 n (some .clearStop)).withCue { s.cue with showStop := false }).withdraw_nil
      isShowHalt
    have hq : (takeClearStop (heard n (some .clearStop) s)).line.reports = [] := Line.Posts.quiet hpost
    refine ⟨_, hex, finish_cue _ hq, ?_, FrameBut.finish ?_ hq⟩
    · rw [finish_line _ hq]
      intro hm
      obtain ⟨o, ho, hp⟩ := List.mem_map.mp hm
      have hnot := (List.mem_filter.mp ho).2
      simp [isShowHalt, hp, absentByte, HaltReason.code] at hnot
    · exact ((frame_heard n _ s).chain (ds := [.cue, .roster, .line]) (frame_withCue _ _) (by decide) (by decide)).chain
        (frame_withdraw _ _) (by decide) (by decide)

end

section
/-! Claims and releases: the claim table, the start of a run, and what the cue unit does with a verdict. -/

namespace Sys2Proof.Machine

/-! ### The claim table under an evaluation (01 R5 to R14) -/

theorem hasEntry_iff (table : List Entry) (k : Key) (b : Box) : hasEntry table k b = true ↔ ⟨k, b⟩ ∈ table := by
  simp only [hasEntry, List.any_eq_true, Bool.and_eq_true, beq_iff_eq]
  constructor
  · rintro ⟨e, he, rfl, rfl⟩
    exact he
  · exact fun h => ⟨_, h, rfl, rfl⟩

theorem hasKey_iff (table : List Entry) (k : Key) : hasKey table k = true ↔ ∃ e ∈ table, e.key = k := by
  simp [hasKey]

theorem mem_of_findEntry {table : List Entry} {k : Key} {e : Entry} (h : findEntry table k = some e) :
    e ∈ table ∧ e.key = k :=
  ⟨List.mem_of_find?_eq_some h, by simpa using List.find?_some h⟩

theorem mem_replaceBox {table : List Entry} {k : Key} {b : Box} {e : Entry} (h : e ∈ replaceBox table k b) :
    e ∈ table ∨ e = ⟨k, b⟩ := by
  induction table with
  | nil => exact absurd h (by simp [replaceBox])
  | cons x t ih =>
    by_cases hx : x.key = k
    · rw [replaceBox_cons_same t b hx] at h
      rcases List.mem_cons.mp h with h | h
      · exact .inr h
      · exact .inl (List.mem_cons_of_mem x h)
    · rw [replaceBox_cons_other t b hx] at h
      rcases List.mem_cons.mp h with rfl | h
      · exact .inl (by simp)
      · exact (ih h).imp_left (List.mem_cons_of_mem x)

theorem newVerdict_granted {zones : List Zone} {table : List Entry} {k : Key} {b : Box}
    (h : (newVerdict zones table k b).refused = false) :
    zoneConflict zones k.flyer b = false ∧ entryConflict table k.flyer b = false
      ∧ newVerdict zones table k b = .appended := by
  unfold newVerdict at *
  split_ifs at * <;> simp_all [Verdict.refused]

theorem resizeVerdict_granted {zones : List Zone} {table : List Entry} {k : Key} {b : Box} {e : Entry}
    (h : (resizeVerdict zones table e k b).refused = false) :
    zoneConflict zones k.flyer b = false ∧ entryConflict table k.flyer b = false
      ∧ (resizeVerdict zones table e k b = .resized ∨ resizeVerdict zones table e k b = .unchanged ∧ e.box = b) := by
  unfold resizeVerdict at *
  split_ifs at * <;> simp_all [Verdict.refused]

/-- A verdict that is no refusal: the box overlaps no barring zone and no other flyer's entry (01 R3, R6), and it is a new entry, a resize, or finds the entry as it is. -/
theorem granted_cases {zones : List Zone} {table : List Entry} {k : Key} {b : Box}
    (h : (claimVerdict zones table k b).refused = false) :
    (zoneConflict zones k.flyer b = false ∧ entryConflict table k.flyer b = false)
      ∧ (claimVerdict zones table k b = .appended ∨ claimVerdict zones table k b = .resized
        ∨ claimVerdict zones table k b = .unchanged ∧ ⟨k, b⟩ ∈ table) := by
  by_cases hw : Key.wf k = false ∨ Box.wf b = false
  · rw [claimVerdict_malformed zones table hw] at h
    exact absurd h (by simp [Verdict.refused])
  · push Not at hw
    obtain ⟨hkw, hbw⟩ := hw
    replace hkw := eq_true_of_ne_false hkw
    replace hbw := eq_true_of_ne_false hbw
    cases hf : findEntry table k with
    | none =>
      rw [claimVerdict_absent zones hkw hbw hf] at h ⊢
      obtain ⟨hz, hx, hv⟩ := newVerdict_granted h
      exact ⟨⟨hz, hx⟩, .inl hv⟩
    | some e =>
      rw [claimVerdict_present zones hkw hbw hf] at h ⊢
      obtain ⟨hz, hx, hv⟩ := resizeVerdict_granted h
      obtain ⟨hm, hk⟩ := mem_of_findEntry hf
      refine ⟨⟨hz, hx⟩, .inr (hv.imp_right (fun hv => ⟨hv.1, ?_⟩))⟩
      obtain ⟨-, rfl⟩ := hv
      subst hk
      exact hm

/-- A granted claim stands in the table. -/
theorem hasEntry_granted {r : AirRegister} {k : Key} {b : Box}
    (h : (claimVerdict r.zones r.table k b).refused = false) :
    hasEntry (AirRegister.claim r k b).table k b = true := by
  rw [hasEntry_iff]
  rcases (granted_cases h).2 with hv | hv | ⟨hv, hm⟩
  · rw [AirRegister.claim_appended hv]
    simp
  · have hf := findEntry_replaceBox b (findEntry_isSome_of_resized hv)
    rw [AirRegister.claim_resized hv]
    exact (mem_of_findEntry hf).1
  · rw [AirRegister.claim_unchanged (by simp [hv]) (by simp [hv])]
    exact hm

theorem release_table (r : AirRegister) (k : Key) :
    (AirRegister.release r k).table = r.table.eraseP (fun e => e.key == k) := by
  unfold AirRegister.release
  split
  · rfl
  · rename_i h
    refine (List.eraseP_of_forall_not (fun e he hk => h ?_)).symm
    exact (hasKey_iff r.table k).mpr ⟨e, he, by simpa using hk⟩

theorem release_absent {r : AirRegister} {k : Key} (h : hasKey r.table k = false) : AirRegister.release r k = r := by
  simp [AirRegister.release, h]

/-- A RELEASE leaves the entries of every other key. -/
theorem hasEntry_release_other {r : AirRegister} {k j : Key} (h : k ≠ j) (b : Box) :
    hasEntry (AirRegister.release r k).table j b = hasEntry r.table j b := by
  refine Bool.eq_iff_iff.mpr ?_
  rw [hasEntry_iff, hasEntry_iff, release_table]
  refine List.mem_eraseP_of_neg ?_
  simpa using fun hk : j = k => h hk.symm

/-- A RELEASE adds no entry. -/
theorem hasEntry_release_le {r : AirRegister} {k j : Key} {b : Box} (h : hasEntry r.table j b = false) :
    hasEntry (AirRegister.release r k).table j b = false := by
  rw [Bool.eq_false_iff] at h ⊢
  rw [Ne, hasEntry_iff] at h ⊢
  rw [release_table]
  exact fun hm => h (List.mem_of_mem_eraseP hm)

theorem hasKey_release_le {r : AirRegister} {k j : Key} (h : hasKey r.table j = false) :
    hasKey (AirRegister.release r k).table j = false := by
  rw [Bool.eq_false_iff] at h ⊢
  rw [Ne, hasKey_iff] at h ⊢
  rw [release_table]
  rintro ⟨e, he, hk⟩
  exact h ⟨e, List.mem_of_mem_eraseP he, hk⟩

/-! ### The start condition and the start (03 R58, R59) -/

theorem startCondition_of {s : State} {c : CurrentCue} (hc : s.cue.current = some c) :
    startCondition s = (c.phase == .armed && s.cue.slots.all (fun x => x == some (c.showNo, c.segment))
      && hasEntry s.reg.table c.runKey c.box) := by
  simp [startCondition, hc]

theorem startCondition_running {s : State} {c : CurrentCue} (hc : s.cue.current = some c) (hp : c.phase = .running) :
    startCondition s = false := by
  simp [startCondition_of hc, hp]

theorem startCondition_none {s : State} (hc : s.cue.current = none) : startCondition s = false := by
  simp [startCondition, hc]

/-- The station begins the segment of the cue it has armed, from the state `v` that the start finds. -/
theorem engineBegun_starting {s v : State} (c : CurrentCue) (hw : v.store.working = s.store.working)
    (hx : v.axis.inputs = s.axis.inputs) : engineBegun s c (engineStarting c v) := by
  unfold engineBegun engineStarting
  rw [hw, hx]
  dsimp only
  generalize segmentOf s.store.working.words c.segment = g
  have hback : ∀ p : Nat, 32 * (p / 32) + p % 32 = p := fun p => by omega
  cases hm : g.mode with
  | none => simp [Engine.begin, Engine.load, playOf]
  | some m =>
    cases m with
    | once => simp [Engine.begin, Engine.load, playOf, playedSpeed]
    | back =>
      simp [Engine.begin, Engine.load, playOf, playedSpeed, Engine.atPosition, hback]
      omega
    | swing => simp [Engine.begin, Engine.load, playOf, playedSpeed]

theorem lineStarting_slot {c : CurrentCue} {v : State} (hx : v.axis.state = .armed) (hl : v.line.state = .on) :
    (lineStarting c v).slot.isSome = true := by
  have h : (lineEntering v.axis.state .flying (Line.withdraw v.line (postOfWait c))).slot.isSome = true :=
    lineEntering_slot (by simp [hx]) (by simpa using hl)
  unfold lineStarting
  cases v.cue.held with
  | none => exact h
  | some k =>
    simp only
    split
    · simpa using h
    · exact h

/-- A started run, from a state `v` in which the event has touched the register, the set ready table, the roster and the line alone. -/
theorem runStarted_of {s v : State} (c : CurrentCue) (hs : CalmOn s) (hp : Posting s v [])
    (hf : FrameBut [.reg, .cue, .roster, .line] s v) (hx : s.axis.state = .armed)
    (hslots : v.cue.slots.length = s.cue.slots.length) (hheld : v.cue.held = s.cue.held)
    (hqueue : v.cue.queue = s.cue.queue) : runStarted s (finish (startRun c v)) c := by
  have hax : v.axis = s.axis := hf.block .axis (by decide)
  have hwork := (hf.block .store (by decide)).working
  have hpost := hp.startRun c
  have hq := hpost.quiet
  refine ⟨?_, ?_, ?_, ?_, ?_, ?_, ?_, ?_, ?_, ?_, ?_, fun hb => ?_, ?_, ?_, ?_, ?_, ?_⟩
  · rw [finish_current hq, startRun_cue]
    rfl
  · rw [finish_slots hq, startRun_cue, ← hslots]
    simp [CueUnit.started]
  · rw [finish_slots hq, startRun_cue]
    simp [CueUnit.started]
  · rw [finish_readyWait hq, startRun_cue]
    rfl
  · rw [finish_spaceWait hq, startRun_cue]
    rfl
  · rw [finish_held hq, startRun_cue, ← hheld]
    rfl
  · rw [finish_queue hq, startRun_cue, ← hqueue]
    rfl
  · rw [finish_axis _ hq, startRun_axis]
    rfl
  · rw [finish_axis _ hq, startRun_axis]
    exact Axis.command_brake _ _
  · rw [finish_axis _ hq, startRun_axis]
    exact Axis.command_demand _ _
  · rw [finish_axis _ hq, startRun_axis]
    exact Axis.command_origin _ _
  · rw [finish_axis _ hq, startRun_axis]
    exact Axis.command_timer (b := .released) _ (by simp [hax, hb])
  · rw [finish_engine _ hq, startRun_engine]
    exact engineBegun_starting c hwork (by rw [hax])
  · rw [finish_aloft hq, startRun_store, hf.flyer]
    rfl
  · rw [finish_roster _ hq, startRun_roster]
  · rw [finish_line _ hq, startRun_line]
    exact lineStarting_slot (by rw [hax, hx]) (by rw [hp.state, hs.2])
  · rw [hpost.finish.newPosts hs.2, startPosts, hheld, hf.isLead]
    cases s.cue.held <;> simp

end Sys2Proof.Machine
end

section
/-! What the cue unit does with claims and releases: one equation for each case, and the posts of an evaluation. -/

namespace Sys2Proof.Machine

/-! ### The parts of an evaluation -/

section
variable {s : State} {c : CurrentCue} {k : Key}

theorem beginSpaceWait_first (hc : s.cue.current = some c) (h : c.spaceBegun = false) :
    beginSpaceWait s
      = s.withCue { s.cue with
          current := some { c with spaceBegun := true }, spaceWait := some Config.spaceWaitMs } := by
  simp [beginSpaceWait, hc, h]

theorem beginSpaceWait_again (hc : s.cue.current = some c) (h : c.spaceBegun = true) : beginSpaceWait s = s := by
  simp [beginSpaceWait, hc, h]

theorem clearHeld_grounded (h : ∀ c, s.cue.current = some c → c.phase = .armed) : clearHeld k s = s := by
  unfold clearHeld
  split
  · rename_i c hc
    simp [h c hc]
  · rfl

theorem clearHeld_named (hc : s.cue.current = some c) (hp : c.phase = .running) (hk : s.cue.heldKey = some k) :
    clearHeld k s = s.withCue { s.cue with held := none } := by
  simp [clearHeld, hc, hp, hk]

theorem loseEntry_none (hc : s.cue.current = none) : loseEntry k s = s := by simp [loseEntry, hc]

theorem loseEntry_other (hc : s.cue.current = some c) (h : c.runKey ≠ k) : loseEntry k s = s := by
  simp [loseEntry, hc, h]

theorem loseEntry_running (hc : s.cue.current = some c) (hp : c.phase = .running) (h : c.runKey = k) :
    loseEntry k s = cutRunning c .claimLost s := by
  simp [loseEntry, hc, h, hp, cutRun_running]

theorem loseEntry_armed (hc : s.cue.current = some c) (hp : c.phase = .armed) (h : c.runKey = k) :
    loseEntry k s = if s.isLead then beginSpaceWait s else s := by
  simp [loseEntry, hc, h, hp]

theorem retryClaim_of (hc : s.cue.current = some c) :
    retryClaim s = if s.cue.spaceWait.isSome && c.phase == .armed && s.isLead
        && !hasEntry s.reg.table c.runKey c.box && !Line.hasClaim s.line
      then s.postFor .forCue (.claim c.runKey c.box) else s := by
  simp [retryClaim, hc]

theorem retryClaim_none (hc : s.cue.current = none) : retryClaim s = s := by simp [retryClaim, hc]

theorem retryClaim_running (hc : s.cue.current = some c) (hp : c.phase = .running) : retryClaim s = s := by
  simp [retryClaim_of hc, hp]

theorem retryReclaim_of {h : Held} (hh : s.cue.held = some h) :
    retryReclaim s = if s.cue.reclaim == .refused && owesReclaim s && !Line.hasClaim s.line
      then s.post (.claim h.key h.box) else s := by
  simp [retryReclaim, hh]

theorem retryReclaim_unowed (h : owesReclaim s = false) : retryReclaim s = s := by
  unfold retryReclaim
  split
  · simp [h]
  · rfl

theorem owesReclaim_iff (s : State) : owesReclaim s = true ↔ ∃ h, reclaimOwed s h := by
  unfold owesReclaim reclaimOwed
  cases s.cue.held <;> simp [and_assoc, or_assoc]

theorem owesReclaim_moving (h : s.axis.state = .armed ∨ s.axis.state = .flying ∨ s.axis.state = .stopping) :
    owesReclaim s = false := by
  rcases h with h | h | h <;> simp [owesReclaim, h]

theorem owesReclaim_unheld (h : s.cue.held = none) : owesReclaim s = false := by
  simp [owesReclaim, h]

end

/-! ### The state before the test of the start condition -/

/-- What the cue unit does with a verdict before it tests the start condition (03 R62, R74). -/
def claimNoted (sender : Nat) (k : Key) (v : Verdict) (s : State) : State :=
  let refusedOwn := v.refused && sender == s.strap
  let s1 := if refusedOwn && armedLead s k then beginSpaceWait s else s
  if refusedOwn && s1.cue.heldKey == some k && s1.cue.reclaim == .posted then
    s1.withCue { s1.cue with reclaim := .refused } else s1

theorem cueAfterClaim_eq (sender : Nat) (k : Key) (v : Verdict) (s : State) :
    cueAfterClaim sender k v s = testStart (claimNoted sender k v s) := rfl

/-- What the cue unit does with a RELEASE before it tests the start condition (03 R62, R72 to R74). -/
def releaseNoted (k : Key) (removed : Bool) (s : State) : State :=
  let s1 := clearHeld k s
  retryReclaim (retryClaim (if removed then loseEntry k s1 else s1))

theorem cueAfterRelease_eq (k : Key) (removed : Bool) (s : State) :
    cueAfterRelease k removed s = testStart (releaseNoted k removed s) := rfl

/-- The re-claim's mark is no change of the cue unit that a frame sees. -/
theorem frame_reclaimMark (s : State) (v : Reclaim) : FrameBut [] s (s.withCue { s.cue with reclaim := v }) := by
  refine ⟨rfl, rfl, rfl, rfl, fun b _ => ?_⟩
  cases b <;> rfl

theorem beginSpaceWait_line (s : State) : (beginSpaceWait s).line = s.line := by
  unfold beginSpaceWait
  split
  · split <;> rfl
  · rfl

theorem claimNoted_line (sender : Nat) (k : Key) (v : Verdict) (s : State) :
    (claimNoted sender k v s).line = s.line := by
  unfold claimNoted
  dsimp only
  split <;> split <;> simp [beginSpaceWait_line]

/-- Without a current cue a verdict leaves the cue unit but for the re-claim's mark. -/
theorem claimNoted_none {s : State} (hc : s.cue.current = none) (sender : Nat) (k : Key) (v : Verdict) :
    FrameBut [] s (claimNoted sender k v s) ∧ (claimNoted sender k v s).cue.current = none := by
  have harm : armedLead s k = false := by simp [armedLead, hc]
  unfold claimNoted
  simp only [harm, Bool.and_false, Bool.false_eq_true, if_false]
  split
  · exact ⟨frame_reclaimMark s _, hc⟩
  · exact ⟨.refl _ s, hc⟩

theorem frame_claimNoted (sender : Nat) (k : Key) (v : Verdict) (s : State) :
    FrameBut [.cue] s (claimNoted sender k v s) := by
  unfold claimNoted
  dsimp only
  have h1 : FrameBut [.cue] s (if v.refused && sender == s.strap && armedLead s k then beginSpaceWait s else s) :=
    .ite (frame_beginSpaceWait s) (.refl _ s)
  exact .ite (h1.chain (frame_withCue _ _) (by decide) (by decide)) h1

theorem testStart_none {s : State} (hc : s.cue.current = none) : testStart s = s :=
  testStart_false (startCondition_none hc)

/-! ### The posts of an evaluation -/

/-- A post that no start withdraws: no UNREADY and no CUT (03 R59). -/
def staysAtStart : Post → Bool
  | .unready .. | .cut .. => false
  | _ => true

theorem postOfWait_stays (c : CurrentCue) {o : OutPost} (h : staysAtStart o.post = true) : postOfWait c o = false := by
  unfold postOfWait
  split <;> simp_all [staysAtStart]

theorem Line.Posts.withdraw_stays {l0 l : Line} {ps : List Post} (h : Line.Posts l0 l ps)
    (hps : ∀ p ∈ ps, staysAtStart p = true) (c : CurrentCue) :
    Line.Posts l0 (Line.withdraw l (postOfWait c)) ps :=
  h.withdraw_of _ fun _ ho => postOfWait_stays c (hps _ ho)

theorem startPosts_length (c : CurrentCue) (s : State) : (startPosts c s).length ≤ 1 := by
  unfold startPosts
  split
  · split <;> simp
  · simp

theorem Posting.testStart {s t : State} {ps : List Post} (h : Posting s t ps)
    (hps : ∀ p ∈ ps, staysAtStart p = true) (hn : ps.length < 4) :
    ∃ qs, qs.length ≤ 1 ∧ Posting s (testStart t) (ps ++ qs) := by
  cases hst : startCondition t with
  | false => exact ⟨[], by simp, by rw [testStart_false hst, List.append_nil]; exact h⟩
  | true =>
    obtain ⟨c, hc, -, -, -⟩ := (startCondition_iff t).mp hst
    have h1 := (h.withdraw_stays hps c).entering t.axis.state .flying
    refine ⟨startPosts c t, startPosts_length c t, ?_⟩
    rw [testStart_true hc hst]
    refine .of_line (l := lineStarting c t) ?_ (by simp)
    unfold lineStarting startPosts
    cases t.cue.held with
    | none => simpa using h1
    | some k =>
      simp only
      split
      · exact h1.offer _ .plain hn
      · simpa using h1

theorem Posting.evaluateClaim {s t : State} {ps : List Post} (h : Posting s t ps)
    (hps : ∀ p ∈ ps, staysAtStart p = true) (hn : ps.length ≤ 1) (n : Nat) (k : Key) (b : Box) :
    ∃ qs, Posting s (evaluateClaim n k b t) qs := by
  have h1 : Posting s (claimNoted n k (claimVerdict t.reg.zones t.reg.table k b)
      (t.withReg (AirRegister.claim t.reg k b))) ps := h.congr (claimNoted_line _ _ _ _)
  obtain ⟨qs, -, hq⟩ := h1.testStart hps (by omega)
  exact ⟨_, hq⟩

/-- What a re-claim sent again adds. -/
theorem Posting.retryReclaim {s t : State} {ps : List Post} (h : Posting s t ps) (hn : ps.length < 4) :
    ∃ qs, qs.length ≤ 1 ∧ (∀ p ∈ qs, staysAtStart p = true) ∧ Posting s (retryReclaim t) (ps ++ qs)
      ∧ (retryReclaim t).cue = t.cue := by
  unfold Machine.retryReclaim
  split
  · split
    · exact ⟨[_], by simp, by simp [staysAtStart], h.post _ hn, rfl⟩
    · exact ⟨[], by simp, by simp, by simpa using h, rfl⟩
  · exact ⟨[], by simp, by simp, by simpa using h, rfl⟩

/-- What a claim sent again adds. -/
theorem Posting.retryClaim {s t : State} {ps : List Post} (h : Posting s t ps) (hn : ps.length < 4) :
    ∃ qs, qs.length ≤ 1 ∧ (∀ p ∈ qs, staysAtStart p = true) ∧ Posting s (retryClaim t) (ps ++ qs) := by
  unfold Machine.retryClaim
  split
  · split
    · exact ⟨[_], by simp, by simp [staysAtStart], h.postFor _ _ hn⟩
    · exact ⟨[], by simp, by simp, by simpa using h⟩
  · exact ⟨[], by simp, by simp, by simpa using h⟩

theorem Posting.clearHeld {s t : State} {ps : List Post} (h : Posting s t ps) (k : Key) :
    Posting s (clearHeld k t) ps := by
  unfold Machine.clearHeld
  split
  · split
    · exact h
    · exact h
  · exact h

/-- The line interface where an entry is lost that cuts no run. -/
theorem loseEntry_line {s : State} {k : Key} (h : ∀ c, s.cue.current = some c → c.phase = .armed ∨ c.runKey ≠ k) :
    (loseEntry k s).line = s.line := by
  rcases cuePhase_cases s with hc | ⟨c, hc, hp⟩ | ⟨c, hc, hp⟩
  · rw [loseEntry_none hc]
  · by_cases hk : c.runKey = k
    · rw [loseEntry_armed hc hp hk]
      split
      · exact beginSpaceWait_line _
      · rfl
    · rw [loseEntry_other hc hk]
  · rw [loseEntry_other hc ((h c hc).resolve_left (by simp [hp]))]

/-- A RELEASE adds a CUT where it cuts the run, and else at most the two claims sent again. -/
theorem Posting.releaseNoted {s t : State} {ps : List Post} (h : Posting s t ps)
    (hps : ∀ p ∈ ps, staysAtStart p = true) (hn : ps.length ≤ 1) (k : Key) (removed : Bool) :
    ∃ qs, qs.length ≤ 3 ∧ Posting s (releaseNoted k removed t) qs
      ∧ ((∀ p ∈ qs, staysAtStart p = true) ∨ (releaseNoted k removed t).cue.current = none) := by
  have hquiet : ∀ u : State, Posting s u ps → ∃ qs, qs.length ≤ 3
      ∧ Posting s (Machine.retryReclaim (Machine.retryClaim u)) qs ∧ ∀ p ∈ qs, staysAtStart p = true := by
    intro u hu
    obtain ⟨qs, hq1, hqc, hqp⟩ := hu.retryClaim (by omega)
    obtain ⟨rs, hr1, hrc, hrp, -⟩ := hqp.retryReclaim (by simp only [List.length_append]; omega)
    refine ⟨ps ++ qs ++ rs, by simp only [List.length_append]; omega, hrp, fun p hp => ?_⟩
    rcases List.mem_append.mp hp with hp | hp
    · exact (List.mem_append.mp hp).elim (hps p) (hqc p)
    · exact hrc p hp
  have hclear := h.clearHeld k
  unfold Machine.releaseNoted
  dsimp only
  by_cases hcut : removed = true ∧ ∃ c, (Machine.clearHeld k t).cue.current = some c ∧ c.phase = .running ∧ c.runKey = k
  · obtain ⟨hr, c, hc, hp, hk⟩ := hcut
    rw [if_pos hr, loseEntry_running hc hp hk]
    have hnone : (Machine.cutRunning c .claimLost (Machine.clearHeld k t)).cue.current = none := by
      rw [cutRunning_cue]
      rfl
    rw [retryClaim_none hnone]
    obtain ⟨rs, hr1, -, hrp, hrc⟩ := (hclear.cutRunning c .claimLost (by omega)).retryReclaim
      (by simp only [List.length_append, List.length_singleton]; omega)
    refine ⟨_, ?_, hrp, .inr (by rw [hrc, hnone])⟩
    simp only [List.length_append, List.length_singleton]
    omega
  · have hl : (if removed = true then loseEntry k (Machine.clearHeld k t) else Machine.clearHeld k t).line
        = (Machine.clearHeld k t).line := by
      split
      · rename_i hr
        refine loseEntry_line fun c hc => ?_
        by_contra hno
        push Not at hno
        refine hcut ⟨hr, c, hc, ?_, hno.2⟩
        cases hp : c.phase with
        | armed => exact absurd hp hno.1
        | running => rfl
      · rfl
    obtain ⟨qs, h1, h2, h3⟩ := hquiet _ (hclear.congr hl)
    exact ⟨qs, h1, h2, .inl h3⟩

theorem Posting.evaluateRelease {s t : State} {ps : List Post} (h : Posting s t ps)
    (hps : ∀ p ∈ ps, staysAtStart p = true) (hn : ps.length ≤ 1) (k : Key) :
    ∃ qs, Posting s (evaluateRelease k t) qs := by
  have h0 : Posting s (t.withReg (AirRegister.release t.reg k)) ps := h
  obtain ⟨qs, hl, hp, hc | hc⟩ := h0.releaseNoted hps hn k (hasKey t.reg.table k)
  · obtain ⟨rs, -, hq⟩ := hp.testStart hc (by omega)
    exact ⟨_, hq⟩
  · refine ⟨qs, ?_⟩
    have he : Machine.evaluateRelease k t = Machine.releaseNoted k (hasKey t.reg.table k)
        (t.withReg (AirRegister.release t.reg k)) := testStart_none hc
    rw [he]
    exact hp

/-! ### The register after an evaluation -/

theorem evaluateClaim_reg (n : Nat) (k : Key) (b : Box) (s : State) :
    (evaluateClaim n k b s).reg = AirRegister.claim s.reg k b :=
  (frame_cueAfterClaim n k _ (s.withReg (AirRegister.claim s.reg k b))).block .reg (by decide)

theorem evaluateRelease_reg (k : Key) (s : State) : (evaluateRelease k s).reg = AirRegister.release s.reg k :=
  (frame_cueAfterRelease k _ (s.withReg (AirRegister.release s.reg k))).block .reg (by decide)

/-- Without a current cue an evaluation changes the register and the posts alone. -/
theorem frame_evaluateClaim_none {s : State} (hc : s.cue.current = none) (n : Nat) (k : Key) (b : Box) :
    FrameBut [.reg] s (evaluateClaim n k b s) := by
  have h := claimNoted_none (s := s.withReg (AirRegister.claim s.reg k b)) hc n k
    (claimVerdict s.reg.zones s.reg.table k b)
  have he : evaluateClaim n k b s = claimNoted n k (claimVerdict s.reg.zones s.reg.table k b)
      (s.withReg (AirRegister.claim s.reg k b)) := testStart_none h.2
  rw [he]
  exact (frame_withReg s _).chain h.1 (by decide) (by decide)

theorem evaluateRelease_none {s : State} (hc : s.cue.current = none) (k : Key) :
    evaluateRelease k s = retryReclaim (s.withReg (AirRegister.release s.reg k)) := by
  have hc' : (s.withReg (AirRegister.release s.reg k)).cue.current = none := hc
  have hcl : clearHeld k (s.withReg (AirRegister.release s.reg k)) = s.withReg (AirRegister.release s.reg k) :=
    clearHeld_grounded (fun c h => absurd (hc'.symm.trans h) (by simp))
  have hre : (retryReclaim (s.withReg (AirRegister.release s.reg k))).cue.current = none := by
    unfold retryReclaim
    split
    · split <;> exact hc
    · exact hc
  have hnoted : releaseNoted k (hasKey s.reg.table k) (s.withReg (AirRegister.release s.reg k))
      = retryReclaim (s.withReg (AirRegister.release s.reg k)) := by
    unfold releaseNoted
    dsimp only
    rw [hcl, loseEntry_none hc', ite_self, retryClaim_none hc']
  have he : evaluateRelease k s
      = testStart (releaseNoted k (hasKey s.reg.table k) (s.withReg (AirRegister.release s.reg k))) := rfl
  rw [he, hnoted, testStart_none hre]

end Sys2Proof.Machine
end

section
/-! CLAIM and RELEASE at their delivery. -/

namespace Sys2Proof.Machine

theorem CalmOn.receives {s : State} (h : CalmOn s) : Receives s := ⟨h.1, .inl h.2⟩

theorem exec_claim {n : Fin 48} {k : Key} {b : Box} {s : State} (hs : Receives s) (hp : s.sync.phase ≠ .copying) :
    exec (.claim n k b) s = .next (finish (evaluateClaim n.val k b (heard n (some (.claim k b)) s))) := by
  have hex : exec (.claim n k b) s
      = .next (deliver n (some (.claim k b)) (takeChange (.claim n.val k b)) s) := rfl
  rw [hex, deliver_calm n _ _ s hs]
  exact congrArg (fun u => Host.Outcome.next (finish u)) (if_neg hp)

/-! ### Separation (01 R6) -/

theorem Box.overlaps_comm (b c : Box) : Box.overlaps b c = Box.overlaps c b := by
  simp only [Box.overlaps, rangesMeet, Bool.and_comm]

theorem Separated.add {table : List Entry} {k : Key} {b : Box} (h : Separated table)
    (hx : entryConflict table k.flyer b = false) {t : List Entry} (ht : ∀ e ∈ t, e ∈ table ∨ e = ⟨k, b⟩) :
    Separated t := by
  have hclear : ∀ e ∈ table, e.key.flyer ≠ k.flyer → Box.overlaps b e.box = false := by
    intro e he hne
    have := List.any_eq_false.mp hx e he
    simpa [hne] using this
  intro e he f hf hne
  rcases ht e he with he | rfl
  · rcases ht f hf with hf | rfl
    · exact h e he f hf hne
    · rw [Box.overlaps_comm]
      exact hclear e he hne
  · rcases ht f hf with hf | rfl
    · exact hclear f hf (Ne.symm hne)
    · exact absurd rfl hne

/-! ### The end of an event and the re-claim's mark -/

theorem owesReclaim_congr {s t : State} (hl : t.isLead = s.isLead) (hx : t.axis.state = s.axis.state)
    (hr : t.reg = s.reg) (hh : t.cue.held = s.cue.held) : owesReclaim t = owesReclaim s := by
  simp [owesReclaim, hl, hx, hr, hh]

/-- An event's end keeps the mark of a re-claim that is still owed. -/
theorem finish_reclaim {u : State} (hq : u.line.reports = []) (ho : owesReclaim u = true)
    (hm : u.cue.reclaim ≠ .notOwed) : (finish u).cue.reclaim = u.cue.reclaim := by
  obtain ⟨v, hv⟩ := trackChain_eq u
  have howes : owesReclaim (trackChain u) = true := by
    rw [hv]
    exact ho
  have hmark : (trackChain u).cue.reclaim = u.cue.reclaim := by
    rw [hv]
    rfl
  rw [finish_quiet u hq, State.withStore_cue]
  unfold trackReclaim
  rw [if_pos howes, hmark, if_neg hm, hmark]

/-- The set lead's own CLAIM of its armed cue refused: the space wait, once. -/
theorem evaluateClaim_armedLead {n : Nat} {c : CurrentCue} {b : Box} {v : State} (hl : v.isLead = true)
    (hc : v.cue.current = some c) (hp : c.phase = .armed) (hn : n = v.strap) (hst : startCondition v = false)
    (hr : (claimVerdict v.reg.zones v.reg.table c.runKey b).refused = true) :
    ∃ w, evaluateClaim n c.runKey b v = w ∧ FrameBut [] (beginSpaceWait v) w ∧ w.line = v.line := by
  have hreg : v.withReg (AirRegister.claim v.reg c.runKey b) = v := by
    rw [AirRegister.claim_refused hr]
    rfl
  have harm : armedLead v c.runKey = true := by simp [armedLead, hc, hl, hp]
  have hown : (n == v.strap) = true := by simp [hn]
  have hfr : FrameBut [] (beginSpaceWait v) (claimNoted n c.runKey (claimVerdict v.reg.zones v.reg.table c.runKey b) v) := by
    unfold claimNoted
    simp only [hr, hown, harm, Bool.and_true, Bool.true_and, if_true]
    split
    · exact frame_reclaimMark _ _
    · exact .refl _ _
  have hcue := hfr.block .cue (by decide)
  have hline := claimNoted_line n c.runKey (claimVerdict v.reg.zones v.reg.table c.runKey b) v
  refine ⟨_, rfl, ?_, ?_⟩
  all_goals
    have he : evaluateClaim n c.runKey b v
        = testStart (claimNoted n c.runKey (claimVerdict v.reg.zones v.reg.table c.runKey b)
          (v.withReg (AirRegister.claim v.reg c.runKey b))) := rfl
    have hfalse : startCondition (claimNoted n c.runKey (claimVerdict v.reg.zones v.reg.table c.runKey b) v) = false := by
      have hslots := CueUnit.sameBut.slots hcue
      have hcurr := CueUnit.sameBut.current hcue
      have hregs : (claimNoted n c.runKey (claimVerdict v.reg.zones v.reg.table c.runKey b) v).reg = v.reg :=
        ((frame_claimNoted _ _ _ _).block .reg (by decide))
      rw [startCondition_of hc] at hst
      cases hb : c.spaceBegun with
      | true =>
        rw [beginSpaceWait_again hc hb] at hslots hcurr
        rw [startCondition_of (hcurr.trans hc), hslots, hregs]
        exact hst
      | false =>
        rw [beginSpaceWait_first hc hb] at hslots hcurr
        rw [startCondition_of hcurr, hslots, hregs]
        exact hst
    rw [he, hreg, testStart_false hfalse]
  · exact hfr
  · exact hline

end Sys2Proof.Machine

open Sys2Proof Sys2Proof.Machine

/-- Settles O20: the verdict's effect on the register, and the four things the cue unit does with it. -/
theorem claimIsEvaluated : Obligations.ClaimIsEvaluated := by
  refine ⟨fun n k b s hs hp => ?_, fun n c b s hs hp hl hn hst hr => ?_,
    fun n h b s hs hp hc ho hm hn hr => ?_,
    fun n c s hs hp hc hph hx hsl hr => ?_⟩
  · have hex := exec_claim (n := n) (k := k) (b := b) hs hp
    have hv0 := Posting.heard hs.1 n (some (.claim k b))
    have hvf := frame_heard n (some (.claim k b)) s
    have hvc : (heard n (some (.claim k b)) s).cue = s.cue := rfl
    have hvr : (heard n (some (.claim k b)) s).reg = s.reg := rfl
    generalize heard n (some (.claim k b)) s = v at *
    obtain ⟨ps, hpost⟩ := hv0.evaluateClaim (by simp) (by simp) n.val k b
    have hq := hpost.quiet
    refine ⟨_, hex, ?_, ?_, fun hc => ?_⟩
    · rw [finish_reg _ hq, evaluateClaim_reg, hvr]
    · exact (hvf.chain (frame_evaluateClaim _ _ _ _) (by decide) (by decide)).finish hq
    · exact (hvf.chain (frame_evaluateClaim_none (by rw [hvc, hc]) _ _ _) (by decide) (by decide)).finish hq
  · obtain ⟨hlead, hc, hph⟩ := hl
    generalize hv : heard n (some (.claim c.runKey b)) s = v
    have hpost : Posting s v [] := by rw [← hv]; exact Posting.heard hs.1 n _
    have hvf : FrameBut [.roster, .line] s v := by rw [← hv]; exact frame_heard n _ s
    have hvc : v.cue = s.cue := by rw [← hv]; rfl
    have hvr : v.reg = s.reg := by rw [← hv]; rfl
    obtain ⟨w, hw, hwf, hwl⟩ := evaluateClaim_armedLead (v := v) (b := b) (by rw [hvf.isLead, hlead]) (by rw [hvc, hc])
      hph (hn.trans hvf.strap.symm) (by rw [← hv]; exact hst) (by rw [hvr]; exact hr)
    have hpw : Posting s w [] := hpost.congr hwl
    have hq := hpw.quiet
    have hex := exec_claim (n := n) (k := c.runKey) (b := b) hs.receives hp
    rw [hv, hw] at hex
    have hcue := hwf.block .cue (by decide)
    refine ⟨fun hb => ⟨_, hex, ?_, ?_, ?_, hpw.finish.newPosts hs.2, ?_⟩, fun hb => ⟨_, hex, ?_, ?_,
      hpw.finish.newPosts hs.2, ?_⟩⟩
    · rw [finish_current hq, CueUnit.sameBut.current hcue, beginSpaceWait_first (by rw [hvc, hc]) hb]
      rfl
    · rw [finish_spaceWait hq, CueUnit.sameBut.spaceWait hcue, beginSpaceWait_first (by rw [hvc, hc]) hb]
      rfl
    · rw [finish_reg _ hq, show w.reg = (beginSpaceWait v).reg from hwf.block .reg (by decide)]
      rw [show (beginSpaceWait v).reg = v.reg from (frame_beginSpaceWait v).block .reg (by decide), hvr]
    · exact ((hvf.chain (ds := [.cue, .roster, .line]) (frame_beginSpaceWait v) (by decide) (by decide)).chain hwf (by decide) (by decide)).finish hq
    · rw [finish_current hq, CueUnit.sameBut.current hcue, beginSpaceWait_again (by rw [hvc, hc]) hb, hvc, hc]
    · rw [finish_spaceWait hq, CueUnit.sameBut.spaceWait hcue, beginSpaceWait_again (by rw [hvc, hc]) hb, hvc]
    · exact ((hvf.chain (ds := [.cue, .roster, .line]) (frame_beginSpaceWait v) (by decide) (by decide)).chain hwf (by decide) (by decide)).finish hq
  · generalize hv : heard n (some (.claim h.key b)) s = v
    have hpost : Posting s v [] := by rw [← hv]; exact Posting.heard hs.1 n _
    have hvf : FrameBut [.roster, .line] s v := by rw [← hv]; exact frame_heard n _ s
    have hvc : v.cue = s.cue := by rw [← hv]; rfl
    have hvr : v.reg = s.reg := by rw [← hv]; rfl
    have hreg : v.withReg (AirRegister.claim v.reg h.key b) = v := by
      rw [AirRegister.claim_refused (by rw [hvr]; exact hr)]
      rfl
    have hheld : s.cue.held = some h := ho.2.2.2.1
    have hnote : claimNoted n.val h.key (claimVerdict v.reg.zones v.reg.table h.key b) v
        = v.withCue { v.cue with reclaim := .refused } := by
      have harm : armedLead v h.key = false := by simp [armedLead, hvc, hc]
      have hown : (n.val == v.strap) = true := by simp [hn, hvf.strap]
      have hkey : (v.cue.heldKey == some h.key) = true := by simp [CueUnit.heldKey, hvc, hheld]
      have hmark : (v.cue.reclaim == Reclaim.posted) = true := by simp [hvc, hm]
      rw [hvr] at *
      simp [claimNoted, harm, hown, hr, hkey, hmark]
    have he : evaluateClaim n.val h.key b v = v.withCue { v.cue with reclaim := .refused } := by
      have h0 : evaluateClaim n.val h.key b v
          = testStart (claimNoted n.val h.key (claimVerdict v.reg.zones v.reg.table h.key b)
            (v.withReg (AirRegister.claim v.reg h.key b))) := rfl
      rw [h0, hreg, hnote]
      exact testStart_none (by rw [State.withCue_cue, hvc]; exact hc)
    have hex := exec_claim (n := n) (k := h.key) (b := b) hs.receives hp
    rw [hv, he] at hex
    have hpw := hpost.withCue { v.cue with reclaim := .refused }
    have hq := hpw.quiet
    have howes : owesReclaim (v.withCue { v.cue with reclaim := .refused }) = true := by
      have hs' := (owesReclaim_iff s).mpr ⟨h, ho⟩
      rw [← hs']
      exact owesReclaim_congr hvf.isLead (by rw [← hv]; rfl) hvr (by rw [State.withCue_cue, hvc])
    refine ⟨_, hex, ?_, ?_, hpw.finish.newPosts hs.2, ?_⟩
    · rw [finish_reclaim hq howes (by simp)]
      rfl
    · rw [finish_held hq, State.withCue_cue, hvc]
    · exact (hvf.chain (frame_withCue _ _) (by decide) (by decide)).finish hq
  · generalize hv : heard n (some (.claim c.runKey c.box)) s = v
    have hpost : Posting s v [] := by rw [← hv]; exact Posting.heard hs.1 n _
    have hvf : FrameBut [.roster, .line] s v := by rw [← hv]; exact frame_heard n _ s
    have hvc : v.cue = s.cue := by rw [← hv]; rfl
    have hvr : v.reg = s.reg := by rw [← hv]; rfl
    have hnote : claimNoted n.val c.runKey (claimVerdict v.reg.zones v.reg.table c.runKey c.box)
        (v.withReg (AirRegister.claim v.reg c.runKey c.box)) = v.withReg (AirRegister.claim v.reg c.runKey c.box) := by
      have hr' : (claimVerdict v.reg.zones v.reg.table c.runKey c.box).refused = false := by rw [hvr]; exact hr
      simp [claimNoted, hr']
    have hcond : startCondition (v.withReg (AirRegister.claim v.reg c.runKey c.box)) = true := by
      refine (startCondition_iff _).mpr ⟨c, by rw [State.withReg_cue, hvc, hc], hph, ?_, ?_⟩
      · rw [State.withReg_cue, hvc]
        exact hsl
      · exact hasEntry_granted (by rw [hvr]; exact hr)
    have he : evaluateClaim n.val c.runKey c.box v
        = startRun c (v.withReg (AirRegister.claim v.reg c.runKey c.box)) := by
      have h0 : evaluateClaim n.val c.runKey c.box v
          = testStart (claimNoted n.val c.runKey (claimVerdict v.reg.zones v.reg.table c.runKey c.box)
            (v.withReg (AirRegister.claim v.reg c.runKey c.box))) := rfl
      rw [h0, hnote]
      exact testStart_true (by rw [State.withReg_cue, hvc, hc]) hcond
    have hex := exec_claim (n := n) (k := c.runKey) (b := c.box) hs.receives hp
    rw [hv, he] at hex
    have hw : Posting s (v.withReg (AirRegister.claim v.reg c.runKey c.box)) [] := hpost
    have hfr : FrameBut [.reg, .cue, .roster, .line] s (v.withReg (AirRegister.claim v.reg c.runKey c.box)) :=
      hvf.chain (frame_withReg _ _) (by decide) (by decide)
    have hq := (hw.startRun c).quiet
    refine ⟨_, hex, runStarted_of c hs hw hfr hx (by rw [State.withReg_cue, hvc]) (by rw [State.withReg_cue, hvc])
      (by rw [State.withReg_cue, hvc]), ?_, (hfr.chain (frame_startRun c _) (by decide) (by decide)).finish hq⟩
    rw [finish_reg _ hq, startRun_reg, State.withReg_reg, hvr]

/-- Settles O23: a granted box is clear of zones and of other flyers' entries, and a RELEASE only removes. -/
theorem separationKept : Obligations.SeparationKept := by
  intro r k b hsep
  refine ⟨?_, ?_, fun hv z hz hb => ?_⟩
  · cases hr : (claimVerdict r.zones r.table k b).refused with
    | true => rw [AirRegister.claim_refused hr]; exact hsep
    | false =>
      obtain ⟨⟨-, hx⟩, hv | hv | ⟨hv, -⟩⟩ := granted_cases hr
      · rw [AirRegister.claim_appended hv]
        exact hsep.add hx (fun e he => by simpa using he)
      · rw [AirRegister.claim_resized hv]
        exact hsep.add hx (fun e he => mem_replaceBox he)
      · rw [AirRegister.claim_unchanged (by simp [hv]) (by simp [hv])]
        exact hsep
  · rw [release_table]
    exact fun e he f hf => hsep e (List.mem_of_mem_eraseP he) f (List.mem_of_mem_eraseP hf)
  · have hr : (claimVerdict r.zones r.table k b).refused = false := by
      rcases hv with hv | hv <;> rw [hv] <;> rfl
    have := List.any_eq_false.mp (granted_cases hr).1.1 z hz
    simpa [hb] using this

end

section
/-! A delivery at a calm station: the state its blocks act on; and RELEASE at its delivery. -/

namespace Sys2Proof.Machine

/-! ### The state a delivery's blocks act on -/

/-- `v` is `s` with the delivery of the post `p` from station `n` entered in the roster and at the line interface. -/
structure Hears (n : Fin 48) (p : Option Post) (s v : State) : Prop where
  posting : Posting s v []
  frame : FrameBut [.roster, .line] s v
  cue : v.cue = s.cue
  store : v.store = s.store
  line : v.line = Line.afterDelivery s.line (Line.ownRef s.line (n.val == s.strap) p)
  roster : v.roster = Roster.put s.roster n (RosterEntry.heard (s.roster.entry n.val))

theorem Receives.delivers {s : State} (hs : Receives s) (n : Fin 48) (p : Option Post) :
    ∃ v, (∀ act, deliver n p act s = finish (act v)) ∧ Hears n p s v :=
  ⟨heard n p s, fun act => deliver_calm n p act s hs,
    Posting.heard hs.1 n p, frame_heard n p s, rfl, rfl, rfl, rfl⟩

section
variable {n : Fin 48} {p : Option Post} {s v : State} (h : Hears n p s v)
include h

theorem Hears.axis : v.axis = s.axis := h.frame.block .axis (by decide)
theorem Hears.engine : v.engine = s.engine := h.frame.block .engine (by decide)
theorem Hears.reg : v.reg = s.reg := h.frame.block .reg (by decide)
theorem Hears.sync : v.sync = s.sync := h.frame.block .sync (by decide)
theorem Hears.lock : v.lock = s.lock := h.frame.block .lock (by decide)

theorem Hears.state : v.line.state = s.line.state := by rw [h.line, Line.afterDelivery_state]

theorem Hears.queue_subset : v.line.queue ⊆ s.line.queue := fun o ho =>
  Line.afterDelivery_sub s.line _ o (by rw [← h.line]; exact ho)

theorem Hears.hasClaim_none (hq : noClaimQueued s) : Line.hasClaim v.line = false := by
  refine List.any_eq_false.mpr fun o ho => ?_
  have := hq o (h.queue_subset ho)
  split
  · rename_i k b hk
    exact absurd hk (this k b)
  · simp

theorem Hears.hasClaim_some (hn : n.val ≠ s.strap) (hq : ∃ o ∈ s.line.queue, ∃ k b, o.post = .claim k b) :
    Line.hasClaim v.line = true := by
  obtain ⟨o, ho, k, b, hk⟩ := hq
  have hl : v.line.queue = s.line.queue := by
    rw [h.line, Line.ownRef_none (.inl hn)]
    rfl
  exact List.any_eq_true.mpr ⟨o, by rw [hl]; exact ho, by simp [hk]⟩

end

/-! ### What the cue unit does with a RELEASE -/

/-- RELEASE outside a copy. -/
theorem exec_releases {s v : State} {n : Fin 48} {k : Key}
    (hv : ∀ act, deliver n (some (.release k)) act s = finish (act v)) (hp : v.sync.phase ≠ .copying) :
    exec (.release n k) s = .next (finish (evaluateRelease k v)) := by
  have hex : exec (.release n k) s = .next (deliver n (some (.release k)) (takeChange (.release n.val k)) s) := rfl
  rw [hex, hv]
  exact congrArg (fun u => Host.Outcome.next (finish u)) (if_neg hp)

/-- The cue unit when the space wait of its cue `c` begins (03 R62). -/
def CueUnit.waitBegun (u : CueUnit) (c : CurrentCue) : CueUnit :=
  { u with current := some { c with spaceBegun := true }, spaceWait := some Config.spaceWaitMs }

section
variable {v : State} {c : CurrentCue}

/-- The register of a RELEASE is all that it has changed before the cue unit acts. -/
abbrev released (k : Key) (v : State) : State := v.withReg (AirRegister.release v.reg k)

theorem evaluateRelease_eq (k : Key) (v : State) :
    evaluateRelease k v = testStart (releaseNoted k (hasKey v.reg.table k) (released k v)) := rfl

/-- With the axis ARMED no re-claim is owed, and no run is there to clear a held claim or to be cut. -/
theorem releaseNoted_armed (hc : v.cue.current = some c) (hp : c.phase = .armed) (hx : v.axis.state = .armed)
    (k : Key) (removed : Bool) :
    releaseNoted k removed v = retryClaim (if removed then loseEntry k v else v) := by
  have hcl : clearHeld k v = v := clearHeld_grounded (fun d hd => by
    rw [hc] at hd
    cases hd
    exact hp)
  have hlose : (loseEntry k v).axis = v.axis := by
    by_cases hk : c.runKey = k
    · rw [loseEntry_armed hc hp hk]
      split
      · exact (frame_beginSpaceWait v).block .axis (by decide)
      · rfl
    · rw [loseEntry_other hc hk]
  have haxis : (retryClaim (if removed then loseEntry k v else v)).axis.state = .armed := by
    rw [show (retryClaim (if removed then loseEntry k v else v)).axis = (if removed then loseEntry k v else v).axis from
      (frame_retryClaim _).block .axis (by decide)]
    split
    · rw [hlose, hx]
    · exact hx
  unfold releaseNoted
  dsimp only
  rw [hcl]
  exact retryReclaim_unowed (owesReclaim_moving (.inl haxis))

/-- Of another key than the run key: the lead's CLAIM is sent again while its space wait runs and its entry is missing (03 R62). -/
theorem evaluateRelease_otherKey (hc : v.cue.current = some c) (hp : c.phase = .armed) (hx : v.axis.state = .armed)
    {k : Key} (hk : k ≠ c.runKey) :
    evaluateRelease k v = testStart (retryClaim (released k v)) := by
  have hc' : (released k v).cue.current = some c := hc
  rw [evaluateRelease_eq, releaseNoted_armed hc' hp hx, loseEntry_other hc' (Ne.symm hk), ite_self]

theorem clearHeld_current (k : Key) (s : State) :
    (clearHeld k s).cue = { s.cue with held := (clearHeld k s).cue.held } := by
  unfold clearHeld
  split
  · split <;> rfl
  · rfl

/-- The entry of the run key is removed under a running cue: the run is cut (03 R72). -/
theorem evaluateRelease_cut (hc : v.cue.current = some c) (hp : c.phase = .running) (hx : v.axis.state = .flying)
    (hk : hasKey v.reg.table c.runKey = true) :
    ∃ w, FrameBut [.reg, .cue] v w ∧ w.cue.queue = v.cue.queue ∧ w.line = v.line
      ∧ evaluateRelease c.runKey v = cutRunning c .claimLost w := by
  have hfr := frame_clearHeld c.runKey (released c.runKey v)
  have hcue := clearHeld_current c.runKey (released c.runKey v)
  have hline : (clearHeld c.runKey (released c.runKey v)).line = v.line := hfr.block .line (by decide)
  have haxis : (clearHeld c.runKey (released c.runKey v)).axis = v.axis := hfr.block .axis (by decide)
  have he : evaluateRelease c.runKey v = testStart (retryReclaim (retryClaim
      (loseEntry c.runKey (clearHeld c.runKey (released c.runKey v))))) := by
    rw [evaluateRelease_eq, hk]
    rfl
  refine ⟨clearHeld c.runKey (released c.runKey v), (frame_withReg v _).chain hfr (by decide) (by decide), ?_, hline, ?_⟩
  · rw [hcue]
    rfl
  · have hcw : (clearHeld c.runKey (released c.runKey v)).cue.current = some c := by
      rw [hcue]
      exact hc
    generalize clearHeld c.runKey (released c.runKey v) = w at *
    have hnone : (cutRunning c .claimLost w).cue.current = none := by
      rw [cutRunning_cue]
      rfl
    have hstop : (cutRunning c .claimLost w).axis.state = .stopping := by
      rw [cutRunning_flying c (by decide) (by rw [haxis, hx])]
      simp [Axis.stopping]
    rw [he, loseEntry_running hcw hp rfl, retryClaim_none hnone,
      retryReclaim_unowed (owesReclaim_moving (.inr (.inr hstop))), testStart_none hnone]

/-- The held key's entry is released while the cue runs under another key: the held claim alone is cleared (03 R73). -/
theorem evaluateRelease_held (hc : v.cue.current = some c) (hp : c.phase = .running) {h : Held}
    (hh : v.cue.held = some h) (hk : h.key ≠ c.runKey) :
    evaluateRelease h.key v = (released h.key v).withCue { v.cue with held := none } := by
  have hc' : (released h.key v).cue.current = some c := hc
  have hcl : clearHeld h.key (released h.key v) = (released h.key v).withCue { v.cue with held := none } :=
    clearHeld_named hc' hp (by simp [CueUnit.heldKey, hh])
  have hcw : ((released h.key v).withCue { v.cue with held := none }).cue.current = some c := hc
  have hnoted : releaseNoted h.key (hasKey v.reg.table h.key) (released h.key v)
      = (released h.key v).withCue { v.cue with held := none } := by
    unfold releaseNoted
    dsimp only
    rw [hcl, loseEntry_other hcw (Ne.symm hk), ite_self, retryClaim_running hcw hp,
      retryReclaim_unowed (owesReclaim_unheld rfl)]
  rw [evaluateRelease_eq, hnoted, testStart_false (startCondition_running hcw hp)]

/-- The armed lead whose space wait runs and whose entry is missing sends its CLAIM again, unless one is queued (03 R62). -/
theorem retryClaim_waiting (hl : v.isLead = true) (hc : v.cue.current = some c) (hp : c.phase = .armed)
    (hw : v.cue.spaceWait.isSome = true) (hno : hasEntry v.reg.table c.runKey c.box = false) :
    retryClaim v = if Line.hasClaim v.line then v else v.postFor .forCue (.claim c.runKey c.box) := by
  rw [retryClaim_of hc]
  cases Line.hasClaim v.line <;> simp [hl, hp, hw, hno]

theorem startCondition_noEntry (hc : v.cue.current = some c) (hno : hasEntry v.reg.table c.runKey c.box = false) :
    startCondition v = false := by
  simp [startCondition_of hc, hno]

/-- The entry of the run key is lost under the armed lead: the space wait begins (03 R62). -/
theorem evaluateRelease_runKey (hl : v.isLead = true) (hc : v.cue.current = some c) (hp : c.phase = .armed)
    (hx : v.axis.state = .armed) (hb : c.spaceBegun = false) (hk : hasKey v.reg.table c.runKey = true) :
    evaluateRelease c.runKey v
      = testStart (retryClaim ((released c.runKey v).withCue (v.cue.waitBegun c))) := by
  have hc' : (released c.runKey v).cue.current = some c := hc
  have hl' : (released c.runKey v).isLead = true := hl
  rw [evaluateRelease_eq, releaseNoted_armed hc' hp hx, hk, if_pos rfl, loseEntry_armed hc' hp rfl, hl', if_pos rfl,
    beginSpaceWait_first hc' hb]
  rfl

theorem startCondition_released (hc : v.cue.current = some c) {k : Key} (hk : k ≠ c.runKey) :
    startCondition (released k v) = startCondition v := by
  have hc' : (released k v).cue.current = some c := hc
  rw [startCondition_of hc, startCondition_of hc']
  exact congrArg _ (hasEntry_release_other hk c.box)

end

end Sys2Proof.Machine

open Sys2Proof Sys2Proof.Machine

/-- Settles O24, case by case over what the cue unit does with the entry it loses. -/
theorem releaseRemovesEntryAndCutsRun : Obligations.ReleaseRemovesEntryAndCutsRun := by
  refine ⟨fun n k s hs hp => ?_, fun n c s hs hp hc hph hx hk => ?_, fun n c h s hs hp hc hph hh hk => ?_,
    fun n c s hs hp hl hx => ?_, fun n k h s hs hp hc ho hm => ?_, fun n k c s hs hp hc hst hx hk => ?_⟩
  · obtain ⟨v, hv, hh⟩ := hs.delivers n (some (.release k))
    have hex := exec_releases hv (by rw [hh.sync]; exact hp)
    obtain ⟨ps, hpost⟩ := hh.posting.evaluateRelease (by simp) (by simp) k
    have hq := hpost.quiet
    have hreg : (finish (evaluateRelease k v)).reg = AirRegister.release s.reg k := by
      rw [finish_reg _ hq, evaluateRelease_reg, hh.reg]
    refine ⟨_, hex, ?_, ?_, fun hin => ?_, fun hout => ?_, (hh.frame.chain (frame_evaluateRelease _ _) (by decide) (by decide)).finish hq,
      fun hc => ?_⟩
    · rw [hreg]
      unfold AirRegister.release
      split <;> rfl
    · rw [hreg]
      unfold AirRegister.release
      split <;> rfl
    · rw [hreg]
      refine ⟨release_table _ _, ?_⟩
      simp [AirRegister.release, (hasKey_iff _ _).mpr hin]
    · rw [hreg]
      refine release_absent (eq_false_of_ne_true fun hk => ?_)
      obtain ⟨e, he, hek⟩ := (hasKey_iff _ _).mp hk
      exact hout e he hek
    · rw [evaluateRelease_none (by rw [hh.cue, hc])] at hq ⊢
      exact ((hh.frame.chain (ds := [.reg, .roster, .line]) (frame_withReg _ _) (by decide) (by decide)).chain
        (frame_retryReclaim _) (by decide) (by decide)).finish hq
  · obtain ⟨v, hv, hv'⟩ := hs.receives.delivers n (some (.release c.runKey))
    have hex := exec_releases hv (by rw [hv'.sync]; exact hp)
    obtain ⟨w, hwf, hwq, hwl, he⟩ := evaluateRelease_cut (v := v) (by rw [hv'.cue, hc]) hph (by rw [hv'.axis, hx])
      (by rw [hv'.reg, hk])
    rw [he] at hex
    have hw0 : Posting s w [] := hv'.posting.congr hwl
    have hpost := hw0.cutRunning c .claimLost (by simp)
    have hq := hpost.quiet
    have hwa : w.axis = s.axis := Eq.trans (hwf.block .axis (by decide)) hv'.axis
    have hwe : w.engine = s.engine := Eq.trans (hwf.block .engine (by decide)) hv'.engine
    have hcut := cutRunning_flying (s := w) c (r := .claimLost) (by decide) (by rw [hwa, hx])
    have hax : (finish (cutRunning c .claimLost w)).axis = s.axis.stopping s.engine := by
      rw [finish_axis _ hq, hcut, hwa, hwe]
      simp
    refine ⟨_, hex, by rw [hax]; rfl, by rw [hax]; rfl, by rw [hax]; rfl, by rw [hax]; rfl, ?_, ?_, ?_, ?_, ?_⟩
    · rw [finish_engine _ hq, hcut]
      simp [Engine.toIdle]
    · rw [finish_current hq, cutRunning_cue]
      rfl
    · rw [finish_held hq, cutRunning_cue]
      rfl
    · rw [finish_queue hq, cutRunning_cue]
      exact hwq.trans (by rw [hv'.cue])
    · rw [hpost.finish.newPosts hs.2]
      have hfl : w.flyer = s.flyer := hwf.flyer.trans hv'.frame.flyer
      simp [cutPost, hfl, hwe, CutReason.code]
  · obtain ⟨v, hv, hv'⟩ := hs.receives.delivers n (some (.release h.key))
    have hex := exec_releases hv (by rw [hv'.sync]; exact hp)
    rw [evaluateRelease_held (v := v) (by rw [hv'.cue, hc]) hph (by rw [hv'.cue, hh]) hk] at hex
    have hpost : Posting s ((released h.key v).withCue { v.cue with held := none }) [] := hv'.posting
    have hq := hpost.quiet
    refine ⟨_, hex, ?_, ?_, hpost.finish.newPosts hs.2, ?_, ?_,
      ((hv'.frame.chain (ds := [.reg, .roster, .line]) (frame_withReg _ _) (by decide) (by decide)).chain (frame_withCue _ _) (by decide) (by decide)).finish hq⟩
    · rw [finish_held hq]
      rfl
    · rw [finish_current hq, State.withCue_cue, hv'.cue, hc]
    · rw [finish_axis _ hq]
      exact hv'.axis
    · rw [finish_engine _ hq]
      exact hv'.engine
  · obtain ⟨hlead, hc, hph⟩ := hl
    refine ⟨fun hb hk hgone hclaim => ?_, fun k x hw hk hno => ⟨fun hclaim => ?_, fun hn hclaim => ?_⟩,
      fun k hw hk hst => ?_⟩
    · obtain ⟨v, hv, hv'⟩ := hs.receives.delivers n (some (.release c.runKey))
      have hex := exec_releases hv (by rw [hv'.sync]; exact hp)
      have hvl : v.isLead = true := by rw [hv'.frame.isLead, hlead]
      rw [evaluateRelease_runKey hvl (by rw [hv'.cue, hc]) hph (by rw [hv'.axis, hx]) hb (by rw [hv'.reg, hk])] at hex
      have hline := hv'.hasClaim_none hclaim
      have hno : hasEntry (AirRegister.release v.reg c.runKey).table c.runKey c.box = false := by
        rw [release_table, hv'.reg]
        exact hgone
      have hcl := retryClaim_waiting (v := (released c.runKey v).withCue (v.cue.waitBegun c))
        (c := { c with spaceBegun := true }) hvl rfl hph rfl hno
      rw [State.withCue_line, State.withReg_line, hline, if_neg (by decide)] at hcl
      have hf : FrameBut [.reg, .cue, .roster, .line] s ((released c.runKey v).withCue (v.cue.waitBegun c)) :=
        (hv'.frame.chain (ds := [.reg, .roster, .line]) (frame_withReg _ _) (by decide) (by decide)).chain (frame_withCue _ _) (by decide) (by decide)
      have hp0 : Posting s ((released c.runKey v).withCue (v.cue.waitBegun c)) [] := hv'.posting
      have hsc := startCondition_noEntry (v := ((released c.runKey v).withCue (v.cue.waitBegun c)).postFor .forCue
        (.claim c.runKey c.box)) (c := { c with spaceBegun := true }) rfl hno
      rw [hcl, testStart_false hsc] at hex
      have hpost := hp0.postFor .forCue (.claim c.runKey c.box) (by simp)
      refine ⟨_, hex, ?_, ?_, hpost.finish.newPosts hs.2, (hf.chain (frame_postFor _ _ _) (by decide) (by decide)).finish hpost.quiet⟩
      · rw [finish_current hpost.quiet]
        rfl
      · rw [finish_spaceWait hpost.quiet]
        rfl
    · obtain ⟨v, hv, hv'⟩ := hs.receives.delivers n (some (.release k))
      have hex := exec_releases hv (by rw [hv'.sync]; exact hp)
      have hvc : v.cue.current = some c := by rw [hv'.cue, hc]
      have hvl : v.isLead = true := by rw [hv'.frame.isLead, hlead]
      have hline := hv'.hasClaim_none hclaim
      have hno' : hasEntry (AirRegister.release v.reg k).table c.runKey c.box = false := by
        rw [hv'.reg]
        exact hasEntry_release_le hno
      have hcl := retryClaim_waiting (v := released k v) hvl hvc hph (by rw [State.withReg_cue, hv'.cue, hw]; rfl) hno'
      rw [State.withReg_line, hline, if_neg (by decide)] at hcl
      have hcu : ((released k v).postFor .forCue (.claim c.runKey c.box)).cue = s.cue := hv'.cue
      have hpost : Posting s ((released k v).postFor .forCue (.claim c.runKey c.box)) [.claim c.runKey c.box] :=
        (hv'.posting.withReg _).postFor .forCue _ (by simp)
      have hf : FrameBut [.reg, .cue, .roster, .line] s ((released k v).postFor .forCue (.claim c.runKey c.box)) :=
        (hv'.frame.chain (ds := [.reg, .roster, .line]) (frame_withReg _ _) (by decide) (by decide)).chain (frame_postFor _ _ _) (by decide) (by decide)
      have hsc : startCondition ((released k v).postFor .forCue (.claim c.runKey c.box)) = false :=
        startCondition_noEntry (c := c) hvc hno'
      rw [evaluateRelease_otherKey hvc hph (by rw [hv'.axis, hx]) hk, hcl] at hex
      rw [testStart_false hsc] at hex
      refine ⟨_, hex, ?_, ?_, hpost.finish.newPosts hs.2, hf.finish hpost.quiet⟩
      · rw [finish_current hpost.quiet, hcu, hc]
      · rw [finish_spaceWait hpost.quiet, hcu, hw]
    · obtain ⟨v, hv, hv'⟩ := hs.receives.delivers n (some (.release k))
      have hex := exec_releases hv (by rw [hv'.sync]; exact hp)
      have hvc : v.cue.current = some c := by rw [hv'.cue, hc]
      have hvl : v.isLead = true := by rw [hv'.frame.isLead, hlead]
      have hline := hv'.hasClaim_some hn hclaim
      have hno' : hasEntry (AirRegister.release v.reg k).table c.runKey c.box = false := by
        rw [hv'.reg]
        exact hasEntry_release_le hno
      have hcl := retryClaim_waiting (v := released k v) hvl hvc hph (by rw [State.withReg_cue, hv'.cue, hw]; rfl) hno'
      rw [State.withReg_line, hline, if_pos rfl] at hcl
      have hcu : (released k v).cue = s.cue := hv'.cue
      have hpost : Posting s (released k v) [] := hv'.posting
      have hsc : startCondition (released k v) = false := startCondition_noEntry (c := c) hvc hno'
      rw [evaluateRelease_otherKey hvc hph (by rw [hv'.axis, hx]) hk, hcl, testStart_false hsc] at hex
      refine ⟨_, hex, ?_, ?_, hpost.finish.newPosts hs.2, (hv'.frame.chain (frame_withReg _ _) (by decide) (by decide)).finish hpost.quiet⟩
      · rw [finish_current hpost.quiet, hcu, hc]
      · rw [finish_spaceWait hpost.quiet, hcu, hw]
    · obtain ⟨v, hv, hv'⟩ := hs.receives.delivers n (some (.release k))
      have hex := exec_releases hv (by rw [hv'.sync]; exact hp)
      have hvc : v.cue.current = some c := by rw [hv'.cue, hc]
      have hsc : startCondition (released k v) = false := by
        rw [startCondition_released hvc hk, startCondition_of hvc, hv'.cue, hv'.reg, ← startCondition_of hc]
        exact hst
      have hcl : retryClaim (released k v) = released k v := by
        have hc' : (released k v).cue.current = some c := hvc
        have hw' : (released k v).cue.spaceWait = none := by
          rw [State.withReg_cue, hv'.cue, hw]
        rw [retryClaim_of hc', hw']
        rfl
      rw [evaluateRelease_otherKey hvc hph (by rw [hv'.axis, hx]) hk, hcl, testStart_false hsc] at hex
      have hpost : Posting s (released k v) [] := hv'.posting
      have hq := hpost.quiet
      refine ⟨_, hex, ?_, hpost.finish.newPosts hs.2, (hv'.frame.chain (frame_withReg _ _) (by decide) (by decide)).finish hq⟩
      rw [finish_current hq]
      exact hvc
  · obtain ⟨v, hv, hv'⟩ := hs.receives.delivers n (some (.release k))
    have hex := exec_releases hv (by rw [hv'.sync]; exact hp)
    rw [evaluateRelease_none (by rw [hv'.cue, hc])] at hex
    have hcu : (released k v).cue = s.cue := hv'.cue
    have hheld : s.cue.held = some h := ho.2.2.2.1
    have hre := retryReclaim_of (s := released k v) (h := h) (by rw [hcu, hheld])
    have howes : owesReclaim (released k v) = true := by
      obtain ⟨hl, hx, hcur, -, hkey⟩ := ho
      refine (owesReclaim_iff _).mpr ⟨h, by rw [← hl]; exact hv'.frame.isLead, ?_, ?_, by rw [hcu, hheld], ?_⟩
      · rw [State.withReg_axis, hv'.axis]
        exact hx
      · rw [State.withReg_reg, hv'.reg, ← hcur]
        unfold AirRegister.release
        split <;> rfl
      · rw [State.withReg_reg, hv'.reg]
        exact hasKey_release_le hkey
    rw [hcu, hm, howes, State.withReg_line] at hre
    have hpost : Posting s (released k v) [] := hv'.posting
    have hf : FrameBut [.reg, .roster, .line] s (released k v) := hv'.frame.chain (frame_withReg _ _) (by decide) (by decide)
    refine ⟨fun hq => ?_, fun hn hq => ?_⟩
    · rw [hv'.hasClaim_none hq, if_pos (by decide)] at hre
      rw [hre] at hex
      have hpost' := hpost.post (.claim h.key h.box) (by simp)
      refine ⟨_, hex, hpost'.finish.newPosts hs.2, ?_, (hf.chain (frame_post _ _) (by decide) (by decide)).finish hpost'.quiet⟩
      rw [finish_held hpost'.quiet, State.post_cue, hcu, hheld]
    · rw [hv'.hasClaim_some hn hq, if_neg (by decide)] at hre
      rw [hre] at hex
      exact ⟨_, hex, hpost.finish.newPosts hs.2, hf.finish hpost.quiet⟩
  · obtain ⟨v, hv, hv'⟩ := hs.receives.delivers n (some (.release k))
    have hex := exec_releases hv (by rw [hv'.sync]; exact hp)
    have hvc : v.cue.current = some c := by rw [hv'.cue, hc]
    have hc' : (released k v).cue.current = some c := hvc
    have hsc : startCondition (released k v) = true := by
      rw [startCondition_released hvc hk, startCondition_of hvc, hv'.cue, hv'.reg, ← startCondition_of hc]
      exact hst
    obtain ⟨d, hd, hph, -, hin⟩ := (startCondition_iff _).mp hsc
    rw [hc'] at hd
    cases hd
    have hcl : retryClaim (released k v) = released k v := by
      rw [retryClaim_of hc', hin]
      simp
    rw [evaluateRelease_otherKey hvc hph (by rw [hv'.axis, hx]) hk, hcl, testStart_true hc' hsc] at hex
    have hpost : Posting s (released k v) [] := hv'.posting
    have hfr : FrameBut [.reg, .cue, .roster, .line] s (released k v) := hv'.frame.chain (frame_withReg _ _) (by decide) (by decide)
    have hcue : (released k v).cue = s.cue := hv'.cue
    refine ⟨_, hex, runStarted_of c hs hpost hfr hx (by rw [hcue]) (by rw [hcue]) (by rw [hcue]), ?_⟩
    exact ((hv'.frame.chain (ds := [.reg, .cue, .axis, .engine, .roster, .line, .store]) (frame_withReg _ _) (by decide) (by decide)).chain
      (frame_startRun c _) (by decide) (by decide)).finish (hpost.startRun c).quiet

end

section
/-! The sync protocol: the choice, the failure of an attempt and the answers, each by what it does to the sync unit, the register and the posts. -/

namespace Sys2Proof.Machine

/-! ### The choice (02 R27, R28) -/

theorem mem_peers {s : State} {m : Nat} : m ∈ s.peers ↔ m < 32 ∧ m ≠ s.strap := by
  simp [State.peers]

/-- The peers reporting CURRENT, in the order of their numbers. -/
def currentPeers (s : State) : List Nat := s.peers.filter (fun n => (s.roster.entry n).reportsCurrent)

theorem mem_currentPeers {s : State} {m : Nat} : m ∈ currentPeers s ↔ reportsCurrent s m := by
  simp only [currentPeers, List.mem_filter, mem_peers, RosterEntry.reportsCurrent, reportsCurrent, Bool.and_eq_true,
    beq_iff_eq]
  tauto

theorem currentPeers_sorted (s : State) : (currentPeers s).Pairwise (· < ·) :=
  (List.pairwise_lt_range.filter _).filter _

/-- The first of a sorted list is its least member. -/
theorem head_of_sorted {l : List Nat} (hl : l.Pairwise (· < ·)) {r : Nat} (hr : r ∈ l) (hmin : ∀ m ∈ l, r ≤ m) :
    l.head? = some r := by
  cases l with
  | nil => exact absurd hr List.not_mem_nil
  | cons a l =>
    rcases List.mem_cons.mp hr with rfl | hr
    · rfl
    · have h1 := (List.pairwise_cons.mp hl).1 r hr
      have h2 := hmin a (by simp)
      omega

theorem nextResponder_of {s : State} {r : Nat} (h : nextAsked s s.sync.responder r) : nextResponder s = some r := by
  obtain ⟨hr, hnext⟩ := h
  have hmem : r ∈ currentPeers s := mem_currentPeers.mpr hr
  have hdef : nextResponder s = match s.sync.responder with
      | none => (currentPeers s).head?
      | some p => match (currentPeers s).find? (fun n => decide (p < n)) with
        | some n => some n
        | none => (currentPeers s).head? := rfl
  rw [hdef]
  rcases hnext with ⟨p, hp, hlt, hmin⟩ | ⟨hall, hmin⟩
  · have hfind : (currentPeers s).find? (fun n => decide (p < n)) = some r := by
      rw [← List.head?_filter]
      refine head_of_sorted ((currentPeers_sorted s).filter _) ?_ fun m hm => ?_
      · exact List.mem_filter.mpr ⟨hmem, by simpa using hlt⟩
      · obtain ⟨hm, hpm⟩ := List.mem_filter.mp hm
        exact hmin m (mem_currentPeers.mp hm) (by simpa using hpm)
    rw [hp]
    simp only [hfind]
  · have hhead := head_of_sorted (currentPeers_sorted s) hmem (fun m hm => hmin m (mem_currentPeers.mp hm))
    cases hp : s.sync.responder with
    | none => exact hhead
    | some p =>
      have hfind : (currentPeers s).find? (fun n => decide (p < n)) = none := by
        refine List.find?_eq_none.mpr fun m hm => ?_
        have := hall p hp m (mem_currentPeers.mp hm)
        simpa using this
      simp only [hfind]
      exact hhead

theorem nextResponder_none {s : State} (h : ∀ m, ¬reportsCurrent s m) : nextResponder s = none := by
  have hnil : currentPeers s = [] := List.eq_nil_iff_forall_not_mem.mpr fun m hm => h m (mem_currentPeers.mp hm)
  have hdef : nextResponder s = match s.sync.responder with
      | none => (currentPeers s).head?
      | some p => match (currentPeers s).find? (fun n => decide (p < n)) with
        | some n => some n
        | none => (currentPeers s).head? := rfl
  rw [hdef, hnil]
  cases s.sync.responder <;> rfl

theorem lowestPresent_iff (s : State) :
    lowestPresent s = true ↔ ∀ m, m < s.strap → m < 32 → (s.roster.entry m).present = false := by
  simp only [lowestPresent, List.all_eq_true, mem_peers, Bool.or_eq_true, Bool.not_eq_true', decide_eq_true_eq]
  constructor
  · intro h m hm h32
    exact (h m ⟨h32, by omega⟩).resolve_right (by omega)
  · rintro h m ⟨h32, hne⟩
    by_cases hm : m < s.strap
    · exact .inl (h m hm h32)
    · exact .inr (by omega)

/-- What the choice may do, and when. -/
theorem choice_cases (s : State) :
    (choiceOpen s = true ∧ ∃ r, nextResponder s = some r ∧ choice s = beginAttempt r s)
    ∨ (choiceOpen s = true ∧ nextResponder s = none ∧ lowestPresent s = true
        ∧ (s.sync.beenCurrent || s.sync.alone == .expired) = true ∧ choice s = startRigAlone s)
    ∨ choice s = s := by
  unfold choice
  split
  · rename_i ho
    split
    · rename_i r hr
      exact .inl ⟨ho, r, hr, rfl⟩
    · rename_i hr
      split
      · rename_i h
        rw [Bool.and_eq_true] at h
        exact .inr (.inl ⟨ho, hr, h.1, h.2, rfl⟩)
      · exact .inr (.inr rfl)
  · exact .inr (.inr rfl)

theorem choiceOpen_iff (s : State) :
    choiceOpen s = true ↔ s.reg.state = .syncing ∧ s.sync.phase = .idle ∧ s.line.state = .on
      ∧ (s.sync.beenCurrent = true ∨ s.sync.alone = .expired ∨ s.sync.winchSeen = true) := by
  simp [choiceOpen, and_assoc, or_assoc]

theorem choice_closed {s : State} (h : choiceOpen s = false) : choice s = s := by simp [choice, h]

theorem choice_asks {s : State} {r : Nat} (ho : choiceOpen s = true) (hr : nextAsked s s.sync.responder r) :
    choice s = beginAttempt r s := by
  simp [choice, ho, nextResponder_of hr]

theorem choice_alone {s : State} (ho : choiceOpen s = true) (hr : ∀ m, ¬reportsCurrent s m)
    (hl : lowestPresent s = true) (hb : s.sync.beenCurrent = true ∨ s.sync.alone = .expired) :
    choice s = startRigAlone s := by
  have : (s.sync.beenCurrent || s.sync.alone == .expired) = true := by simpa using hb
  simp [choice, ho, nextResponder_none hr, hl, this]

theorem choice_waits {s : State} (hr : ∀ m, ¬reportsCurrent s m) (hl : lowestPresent s = false) : choice s = s := by
  simp [choice, nextResponder_none hr, hl]

/-! ### Becoming CURRENT (02 R26, R27) -/

/-- The sync unit of a station that has become CURRENT. -/
def SyncUnit.settled (u : SyncUnit) : SyncUnit := { u.endRound with beenCurrent := true }

theorem becomeCurrent_of {s : State} (h : s.reg.state ≠ .current) :
    becomeCurrent s
      = ((s.withReg { s.reg with state := .current }).withRoster s.roster.unmarkAll).withSync s.sync.settled := by
  have hs : syncSetting s.reg.state .current s.sync.endRound = s.sync.settled := by
    simp [syncSetting, h, SyncUnit.settled]
  have hr : rosterSetting s.reg.state .current s.roster = s.roster.unmarkAll := by simp [rosterSetting, h]
  unfold becomeCurrent
  rw [setRegister_eq, State.withSync_reg, State.withSync_roster, State.withSync_sync, hs, hr]
  rfl

theorem startRigAlone_of {s : State} (h : s.reg.state ≠ .current) :
    startRigAlone s
      = ((s.withReg { s.reg with table := [], generation := 0, state := .current }).withRoster
          s.roster.unmarkAll).withSync s.sync.settled := by
  unfold startRigAlone
  rw [becomeCurrent_of (by simpa using h)]
  rfl

/-! ### The posts of the protocol -/

section
variable {s t : State} {ps : List Post}

theorem Posting.beginAttempt (h : Posting s t ps) (hn : ps.length < 4) (r : Nat) :
    Posting s (beginAttempt r t) (ps ++ [.sync t.strap r]) := (h.withSync _).post _ hn

theorem Posting.setRegister (h : Posting s t ps) (r : RegisterState) : Posting s (setRegister r t) ps := by
  rw [setRegister_eq]
  exact h

theorem Posting.becomeCurrent (h : Posting s t ps) : Posting s (becomeCurrent t) ps :=
  (h.withSync t.sync.endRound).setRegister .current

theorem Posting.startRigAlone (h : Posting s t ps) : Posting s (startRigAlone t) ps :=
  (h.withReg { t.reg with table := [], generation := 0 }).becomeCurrent

theorem Posting.choice (h : Posting s t ps) (hn : ps.length < 4) :
    ∃ qs, qs.length ≤ 1 ∧ (∀ p ∈ qs, staysAtStart p = true) ∧ Posting s (choice t) (ps ++ qs) := by
  rcases choice_cases t with ⟨-, r, -, hc⟩ | ⟨-, -, -, -, hc⟩ | hc
  · rw [hc]
    exact ⟨[_], by simp, by simp [staysAtStart], h.beginAttempt hn r⟩
  · rw [hc]
    exact ⟨[], by simp, by simp, by simpa using h.startRigAlone⟩
  · rw [hc]
    exact ⟨[], by simp, by simp, by simpa using h⟩

end

/-! ### The failure of an attempt (02 R39) -/

/-- The sync unit of an attempt that has failed, before the choice. -/
def SyncUnit.failing (u : SyncUnit) : SyncUnit :=
  { u with phase := .idle, attemptTimer := none, changes := [], failed := u.failed + 1 }

theorem failAttempt_again {s : State} (h : s.sync.failed + 1 < 3) :
    failAttempt s = choice (s.withSync s.sync.failing) := if_pos h

theorem failAttempt_last {s : State} (h : ¬s.sync.failed + 1 < 3) :
    failAttempt s = (s.withSync { s.sync.failing with phase := .resting, retryTimer := some 5000 }).notice
      .syncFailed s.strap none (s.sync.responder.getD 0) := if_neg h

theorem Posting.failAttempt {s t : State} {ps : List Post} (h : Posting s t ps) (hn : ps.length < 4) :
    ∃ qs, qs.length ≤ 1 ∧ (∀ p ∈ qs, staysAtStart p = true) ∧ Posting s (failAttempt t) (ps ++ qs) := by
  by_cases hf : t.sync.failed + 1 < 3
  · rw [failAttempt_again hf]
    exact (h.withSync t.sync.failing).choice hn
  · rw [failAttempt_last hf]
    exact ⟨[_], by simp, by simp [staysAtStart], (h.withSync _).notice _ _ _ _ hn⟩

/-- A sync unit in no attempt. -/
def SyncUnit.AtEase (u : SyncUnit) : Prop := u.phase ≠ .copying ∧ u.phase ≠ .awaiting ∧ u.changes = [] ∧ u.attemptTimer = none

/-- The register's table is as it was or, where the rig was started alone, empty (02 R27). -/
def KeptOrFresh (a b : AirRegister) : Prop :=
  (b.table = a.table ∧ b.generation = a.generation ∨ b.table = [] ∧ b.generation = 0) ∧ b.zones = a.zones

theorem choice_keptOrFresh (s : State) : KeptOrFresh s.reg (choice s).reg := by
  rcases choice_cases s with ⟨-, r, -, hc⟩ | ⟨ho, -, -, -, hc⟩ | hc
  · rw [hc]
    exact ⟨.inl ⟨rfl, rfl⟩, rfl⟩
  · have hsyn := ((choiceOpen_iff s).mp ho).1
    rw [hc, startRigAlone_of (by simp [hsyn])]
    exact ⟨.inr ⟨rfl, rfl⟩, rfl⟩
  · rw [hc]
    exact ⟨.inl ⟨rfl, rfl⟩, rfl⟩

/-- After the choice of a station in no attempt no answer is awaited yet, and nothing is copied. -/
theorem choice_atEase {s : State} (h : s.sync.AtEase) : (choice s).sync.AtEase := by
  obtain ⟨h1, h2, h3, h4⟩ := h
  rcases choice_cases s with ⟨-, r, -, hc⟩ | ⟨ho, -, -, -, hc⟩ | hc
  · rw [hc]
    exact ⟨by simp [beginAttempt], by simp [beginAttempt], h3, h4⟩
  · have hsyn := ((choiceOpen_iff s).mp ho).1
    rw [hc, startRigAlone_of (by simp [hsyn])]
    exact ⟨by simp [SyncUnit.settled, SyncUnit.endRound], by simp [SyncUnit.settled, SyncUnit.endRound], rfl, rfl⟩
  · rw [hc]
    exact ⟨h1, h2, h3, h4⟩

theorem failing_atEase (u : SyncUnit) : u.failing.AtEase :=
  ⟨by simp [SyncUnit.failing], by simp [SyncUnit.failing], rfl, rfl⟩

theorem failAttempt_atEase (s : State) : (failAttempt s).sync.AtEase := by
  by_cases hf : s.sync.failed + 1 < 3
  · rw [failAttempt_again hf]
    exact choice_atEase (failing_atEase _)
  · rw [failAttempt_last hf]
    refine ⟨?_, ?_, rfl, rfl⟩ <;> simp [State.notice]

theorem failAttempt_keptOrFresh (s : State) : KeptOrFresh s.reg (failAttempt s).reg := by
  by_cases hf : s.sync.failed + 1 < 3
  · rw [failAttempt_again hf]
    exact choice_keptOrFresh _
  · rw [failAttempt_last hf]
    exact ⟨.inl ⟨rfl, rfl⟩, rfl⟩

/-! ### The answers (02 R31, R33) -/

theorem serveNext_none {s : State} (h : s.sync.waitList = []) : serveNext s = s := by simp [serveNext, h]

theorem serveNext_cons {s : State} {q : Nat} {qs : List Nat} (h : s.sync.waitList = q :: qs) :
    serveNext s = (s.withSync { s.sync with answer := some ⟨none⟩ }).post (.tableStart q 0 0) := by
  simp [serveNext, h]

end Sys2Proof.Machine
end

section
/-! The posts of the sync protocol at their delivery, and its timers. -/

namespace Sys2Proof.Machine

theorem Posting.newPosts_nil {s t : State} (h : Posting s t []) (hs : Receives s) : Machine.newPosts s t = [] := by
  rcases hs.2 with hl | hl
  · exact h.newPosts hl
  · exact h.posted.2 hl

theorem exec_change {s v : State} {n : Fin 48} {p : Option Post} {c : Change}
    (hv : ∀ act, deliver n p act s = finish (act v)) (hp : v.sync.phase = .copying) :
    (v.sync.changes.length < 8 →
      deliver n p (takeChange c) s = finish (v.withSync { v.sync with changes := v.sync.changes ++ [c] }))
    ∧ (8 ≤ v.sync.changes.length → deliver n p (takeChange c) s = finish (evaluateChange c (failAttempt v))) := by
  refine ⟨fun h => ?_, fun h => ?_⟩
  · rw [hv]
    exact congrArg finish ((if_pos hp).trans (if_pos h))
  · rw [hv]
    exact congrArg finish ((if_pos hp).trans (if_neg (Nat.not_lt.mpr h)))

theorem evaluateChange_sync (c : Change) (s : State) : (evaluateChange c s).sync = s.sync :=
  (frame_evaluateChange c s).block .sync (by decide)

theorem Posting.evaluateChange {s t : State} {ps : List Post} (h : Posting s t ps)
    (hps : ∀ p ∈ ps, staysAtStart p = true) (hn : ps.length ≤ 1) (c : Change) :
    ∃ qs, Posting s (evaluateChange c t) qs := by
  cases c with
  | claim n k b => exact h.evaluateClaim hps hn n k b
  | release n k => exact h.evaluateRelease hps hn k

/-- The ninth change of a copy: the attempt fails, and the change is evaluated in the register as the failure leaves it (02 R37). -/
theorem change_afterFailure {s v : State} {n : Fin 48} {p : Option Post} (hv : Hears n p s v) (c : Change) :
    (finish (evaluateChange c (failAttempt v))).sync.AtEase ∧ KeptOrFresh s.reg (failAttempt v).reg
      ∧ (finish (evaluateChange c (failAttempt v))).reg = (evaluateChange c (failAttempt v)).reg
      ∧ FrameBut [.reg, .sync, .cue, .engine, .axis, .roster, .line, .store] s
          (finish (evaluateChange c (failAttempt v))) := by
  obtain ⟨qs, hlen, hstay, hq⟩ := hv.posting.failAttempt (by simp)
  obtain ⟨rs, hr⟩ := hq.evaluateChange hstay hlen c
  have hkept := failAttempt_keptOrFresh v
  have hfr := hv.frame.chain (ds := [.reg, .sync, .roster, .line]) (frame_failAttempt v) (by decide) (by decide)
  refine ⟨?_, by rw [← hv.reg]; exact hkept, finish_reg _ hr.quiet,
    (hfr.chain (frame_evaluateChange _ _) (by decide) (by decide)).finish hr.quiet⟩
  rw [finish_sync _ hr.quiet, evaluateChange_sync]
  exact failAttempt_atEase v

/-! ### The requester's and the responder's part of a table post -/

theorem fromResponder_of {sender q : Nat} {s : State} :
    fromResponder sender q s = true ↔ q = s.strap ∧ s.sync.responder = some sender := by
  simp [fromResponder]

theorem answerNext_of {q i : Nat} {s : State} {snap : Snapshot} (ha : s.sync.answer = some ⟨some snap⟩)
    (hq : s.sync.waitList.head? = some q) : answerNext q i s = s.post (answerPost q i snap) := by
  simp [answerNext, ha, hq]

theorem answerDone_of {q : Nat} {s : State} {a : Answer} (ha : s.sync.answer = some a)
    (hq : s.sync.waitList.head? = some q) : answerDone q s = endAnswer s := by
  simp [answerDone, ha, hq]

/-! ### The pending changes of a copy applied (02 R38) -/

/-- The register after one change. -/
theorem evaluateChange_reg (c : Change) (s : State) : (evaluateChange c s).reg = registerAfter s.reg [c] := by
  cases c with
  | claim n k b => exact evaluateClaim_reg n k b s
  | release n k => exact evaluateRelease_reg k s

theorem registerAfter_state (r : AirRegister) (cs : List Change) : (registerAfter r cs).state = r.state := by
  have hclaim : ∀ (r : AirRegister) k b, (AirRegister.claim r k b).state = r.state := fun _ _ _ => rfl
  have hrelease : ∀ (r : AirRegister) k, (AirRegister.release r k).state = r.state := by
    intro r k
    unfold AirRegister.release
    split <;> rfl
  induction cs generalizing r with
  | nil => rfl
  | cons c cs ih =>
    refine (ih _).trans ?_
    cases c with
    | claim n k b => exact hclaim r k b
    | release n k => exact hrelease r k

/-- Without a cue and with the register not CURRENT, no change starts, cuts or posts anything. -/
theorem evaluateChange_idle {s : State} (hc : s.cue.current = none) (hr : s.reg.state ≠ .current) (c : Change) :
    FrameBut [.reg] s (evaluateChange c s) ∧ (evaluateChange c s).line = s.line
      ∧ (evaluateChange c s).cue.current = none := by
  cases c with
  | claim n k b =>
    have h := claimNoted_none (s := s.withReg (AirRegister.claim s.reg k b)) hc n k
      (claimVerdict s.reg.zones s.reg.table k b)
    have he : evaluateClaim n k b s = _ := testStart_none h.2
    refine ⟨frame_evaluateClaim_none hc n k b, ?_, ?_⟩
    · exact (congrArg State.line he).trans (claimNoted_line _ _ _ _)
    · exact (congrArg (fun u => u.cue.current) he).trans h.2
  | release n k =>
    have hreg : (s.withReg (AirRegister.release s.reg k)).reg.state ≠ .current := by
      rw [State.withReg_reg, show (AirRegister.release s.reg k).state = s.reg.state from
        registerAfter_state s.reg [.release n k]]
      exact hr
    have he : evaluateRelease k s = s.withReg (AirRegister.release s.reg k) := by
      rw [evaluateRelease_none hc, retryReclaim_unowed]
      simp only [owesReclaim, Bool.and_eq_false_iff]
      exact .inl (.inr (by simpa using hreg))
    rw [show evaluateChange (.release n k) s = _ from he]
    exact ⟨frame_withReg _ _, rfl, hc⟩

theorem applyChanges_idle (cs : List Change) {s : State} (hc : s.cue.current = none) (hr : s.reg.state ≠ .current) :
    FrameBut [.reg] s (applyChanges cs s) ∧ (applyChanges cs s).line = s.line
      ∧ (applyChanges cs s).reg = registerAfter s.reg cs := by
  induction cs generalizing s with
  | nil => exact ⟨.refl _ s, rfl, rfl⟩
  | cons c cs ih =>
    obtain ⟨hf, hl, hc'⟩ := evaluateChange_idle hc hr c
    have hreg := evaluateChange_reg c s
    obtain ⟨hf', hl', hr'⟩ := ih hc' (by rw [hreg, registerAfter_state]; exact hr)
    exact ⟨hf.trans hf', hl'.trans hl, hr'.trans (by rw [hreg]; rfl)⟩

/-- A copy ended well, at a station without a cue. -/
theorem endCopy_idle {s : State} {n : Nat} (hc : s.cue.current = none) (hr : s.reg.state = .syncing)
    (h1 : n = s.sync.expected) (h2 : n = s.sync.received) :
    FrameBut [.reg, .sync, .roster] s (endCopy n s) ∧ (endCopy n s).line = s.line
      ∧ (endCopy n s).reg = { registerAfter s.reg s.sync.changes with state := .current }
      ∧ (endCopy n s).sync = { s.sync with attemptTimer := none }.settled := by
  have he : endCopy n s = becomeCurrent (applyChanges s.sync.changes (s.withSync { s.sync with attemptTimer := none })) :=
    if_pos ⟨h1, h2⟩
  obtain ⟨hf, hl, hreg⟩ := applyChanges_idle s.sync.changes (s := s.withSync { s.sync with attemptTimer := none }) hc
    (by rw [State.withSync_reg, hr]; decide)
  have hsync : (applyChanges s.sync.changes (s.withSync { s.sync with attemptTimer := none })).sync
      = { s.sync with attemptTimer := none } := hf.block .sync (by decide)
  have hnot : (applyChanges s.sync.changes (s.withSync { s.sync with attemptTimer := none })).reg.state ≠ .current := by
    rw [hreg, registerAfter_state, State.withSync_reg, hr]
    decide
  have hfr := ((frame_withSync s { s.sync with attemptTimer := none }).chain (ds := [.reg, .sync]) hf (by decide) (by decide)).chain
    (ds := [.reg, .sync, .roster]) (frame_becomeCurrent _) (by decide) (by decide)
  rw [he]
  generalize applyChanges s.sync.changes (s.withSync { s.sync with attemptTimer := none }) = v at *
  refine ⟨hfr, ?_, ?_, ?_⟩
  · rw [becomeCurrent_of hnot]
    exact hl
  · rw [becomeCurrent_of hnot, State.withSync_reg, State.withRoster_reg, State.withReg_reg, hreg]
    rfl
  · rw [becomeCurrent_of hnot, State.withSync_sync, hsync]

theorem endCopy_fails {s : State} {n : Nat} (h : n ≠ s.sync.expected ∨ n ≠ s.sync.received) :
    endCopy n s = failAttempt s := if_neg (by tauto)

theorem endAnswer_eq (s : State) :
    endAnswer s = serveNext (s.withSync { s.sync with waitList := s.sync.waitList.drop 1, answer := none }) := rfl

end Sys2Proof.Machine

open Sys2Proof Sys2Proof.Machine

/-- Settles O25. -/
theorem copyingHoldsChanges : Obligations.CopyingHoldsChanges := by
  intro n k b s hs hp
  obtain ⟨v, hv, hv'⟩ := hs.delivers n (some (.claim k b))
  obtain ⟨w, hw, hw'⟩ := hs.delivers n (some (.release k))
  have hc := exec_change (c := .claim n.val k b) hv (by rw [hv'.sync, hp])
  have hr := exec_change (c := .release n.val k) hw (by rw [hw'.sync, hp])
  rw [hv'.sync] at hc
  rw [hw'.sync] at hr
  refine ⟨fun hroom => ⟨?_, ?_⟩, fun hfull => ⟨?_, ?_⟩⟩
  · refine ⟨_, congrArg Host.Outcome.next (hc.1 hroom), ?_,
      (hv'.frame.chain (frame_withSync _ _) (by decide) (by decide)).finish hv'.posting.quiet⟩
    exact finish_sync _ (hv'.posting.withSync _).quiet
  · refine ⟨_, congrArg Host.Outcome.next (hr.1 hroom), ?_,
      (hw'.frame.chain (frame_withSync _ _) (by decide) (by decide)).finish hw'.posting.quiet⟩
    exact finish_sync _ (hw'.posting.withSync _).quiet
  · obtain ⟨hease, ⟨htable, hzones⟩, hreg, hf⟩ := change_afterFailure hv' (.claim n.val k b)
    exact ⟨_, (failAttempt v).reg, congrArg Host.Outcome.next (hc.2 hfull), hease.1, hease.2.2.1, htable, hzones,
      hreg.trans (evaluateClaim_reg _ _ _ _), hf⟩
  · obtain ⟨hease, ⟨htable, hzones⟩, hreg, hf⟩ := change_afterFailure hw' (.release n.val k)
    exact ⟨_, (failAttempt w).reg, congrArg Host.Outcome.next (hr.2 hfull), hease.1, hease.2.2.1, htable, hzones,
      hreg.trans (evaluateRelease_reg _ _), hf⟩

/-- Settles O26. -/
theorem syncIsAnswered : Obligations.SyncIsAnswered := by
  intro n q r s hs
  obtain ⟨v, hv, hv'⟩ := hs.delivers n (some (.sync q r))
  have hex : exec (.sync n q r) s = .next (finish (takeSync n.val q r v)) := congrArg Host.Outcome.next (hv _)
  have hstrap : v.strap = s.strap := hv'.frame.strap
  have htaken : ∀ u : State, u.reg = s.reg → u.line.state = s.line.state → u.strap = s.strap →
      u.sync.waitList = s.sync.waitList → (syncTaken q u = true ↔ s.reg.state = .current ∧ s.line.state ≠ .lineOff
        ∧ q ≠ s.strap ∧ q ≤ 31 ∧ q ∉ s.sync.waitList ∧ s.sync.waitList.length < 4) := by
    intro u hr hl hst hw
    simp [syncTaken, hr, hl, hst, hw, Config.maxWaiting, and_assoc]
  refine ⟨fun hon hr hcur hq h31 hin hroom => ?_, fun hown hignored => ?_, fun hn hq hph => ?_⟩
  · have ht : syncTaken q v = true :=
      (htaken v hv'.reg hv'.state hstrap (by rw [hv'.sync])).mpr ⟨hcur, by simp [hon], hq, h31, hin, hroom⟩
    have hact : takeSync n.val q r v = enterWaiting q v := by
      unfold takeSync
      simp [hstrap, hq, hr, ht]
    rw [hact] at hex
    have hfr : FrameBut [.sync, .roster, .line] s (v.withSync { v.sync with waitList := v.sync.waitList ++ [q] }) :=
      hv'.frame.chain (frame_withSync _ _) (by decide) (by decide)
    have hp0 := hv'.posting.withSync { v.sync with waitList := v.sync.waitList ++ [q] }
    cases hw : s.sync.waitList with
    | nil =>
      have hserve : enterWaiting q v = ((v.withSync { v.sync with waitList := v.sync.waitList ++ [q] }).withSync
          { v.sync with waitList := v.sync.waitList ++ [q], answer := some ⟨none⟩ }).post (.tableStart q 0 0) := by
        unfold enterWaiting
        rw [if_pos (by simp [hv'.sync, hw])]
        exact serveNext_cons (q := q) (qs := []) (by simp [hv'.sync, hw])
      rw [hserve] at hex
      have hp := (hp0.withSync { v.sync with waitList := v.sync.waitList ++ [q], answer := some ⟨none⟩ }).post
        (.tableStart q 0 0) (by simp)
      refine ⟨_, hex, ?_, fun _ => ⟨?_, hp.finish.newPosts hon⟩, fun h => absurd rfl h,
        ((hfr.chain (ds := [.sync, .roster, .line]) (frame_withSync _ _) (by decide) (by decide)).chain (frame_post _ _) (by decide) (by decide)).finish hp.quiet⟩
      · rw [finish_sync _ hp.quiet, State.post_sync, State.withSync_sync, hv'.sync, hw]
      · rw [finish_sync _ hp.quiet, State.post_sync, State.withSync_sync]
    | cons a l =>
      have hserve : enterWaiting q v = v.withSync { v.sync with waitList := v.sync.waitList ++ [q] } := by
        unfold enterWaiting
        rw [hv'.sync, hw]
        rfl
      rw [hserve] at hex
      refine ⟨_, hex, ?_, fun h => absurd h (by simp), fun _ => ⟨?_, hp0.finish.newPosts hon⟩, hfr.finish hp0.quiet⟩
      · rw [finish_sync _ hp0.quiet, State.withSync_sync, hv'.sync, hw]
      · rw [finish_sync _ hp0.quiet, State.withSync_sync, hv'.sync]
  · have hsent : (if n.val = v.strap ∧ q = v.strap then syncSent v else v) = v := by
      split
      · rename_i h
        rw [hstrap] at h
        have hph := (hown.resolve_left (not_not.mpr h.1)).resolve_left (not_not.mpr h.2)
        exact if_neg (by rw [hv'.sync]; exact hph)
      · rfl
    have hact : takeSync n.val q r v = v := by
      unfold takeSync
      rw [hsent]
      refine if_neg fun h => ?_
      rw [hstrap] at h
      have ht := (htaken v hv'.reg hv'.state hstrap (by rw [hv'.sync])).mp h.2
      obtain ⟨h1, h2, h3, h4, h5, h6⟩ := ht
      rcases hignored with hi | hi | hi | hi | hi | hi | hi
      · exact hi h.1
      · exact hi h1
      · exact h2 hi
      · exact h3 hi
      · omega
      · exact h5 hi
      · omega
    rw [hact] at hex
    exact ⟨_, hex, hv'.posting.finish.newPosts_nil hs, hv'.frame.finish hv'.posting.quiet⟩
  · have hact : takeSync n.val q r v
        = v.withSync { s.sync with phase := .awaiting, attemptTimer := some 1000 } := by
      have hsent : syncSent v = v.withSync { s.sync with phase := .awaiting, attemptTimer := some 1000 } := by
        unfold syncSent
        rw [hv'.sync, if_pos hph]
        rfl
      have hown : (if n.val = v.strap ∧ q = v.strap then syncSent v else v) = _ :=
        (if_pos ⟨hn.trans hstrap.symm, hq.trans hstrap.symm⟩).trans hsent
      unfold takeSync
      rw [hown]
      refine if_neg fun h => ?_
      have ht := (htaken (v.withSync { s.sync with phase := .awaiting, attemptTimer := some 1000 }) hv'.reg hv'.state
        hstrap rfl).mp h.2
      exact ht.2.2.1 hq
    rw [hact] at hex
    have hp := hv'.posting.withSync { s.sync with phase := .awaiting, attemptTimer := some 1000 }
    exact ⟨_, hex, finish_sync _ hp.quiet, (hv'.frame.chain (frame_withSync _ _) (by decide) (by decide)).finish hp.quiet⟩

/-- Settles O27. -/
theorem tableStartBeginsCopy : Obligations.TableStartBeginsCopy := by
  intro n q c g s hs
  obtain ⟨v, hv, hv'⟩ := hs.receives.delivers n (some (.tableStart q g c))
  have hex : exec (.tableStart n q g c) s = .next (finish (takeTableStart n.val q g c v)) :=
    congrArg Host.Outcome.next (hv _)
  have hstrap : v.strap = s.strap := hv'.frame.strap
  have hother : n.val ≠ s.strap → takeTableStart n.val q g c v
      = if (fromResponder n.val q v && v.sync.phase == .awaiting && decide (c ≤ 24)) = true
        then acceptTableStart g c v else v := by
    intro hn
    unfold takeTableStart
    rw [hstrap, if_neg hn]
    rfl
  refine ⟨fun hn hq hresp hph hc => ?_, fun hn hno => ?_, fun snap hn hq ha hw => ?_⟩
  · have hfrom : fromResponder n.val q v = true :=
      fromResponder_of.mpr ⟨by rw [hstrap, hq], by rw [hv'.sync, hresp]⟩
    rw [hother hn, if_pos (by simp [hfrom, hv'.sync, hph, hc])] at hex
    have hp : Posting s (acceptTableStart g c v) [] := hv'.posting
    have hf : FrameBut [.reg, .sync, .roster, .line] s (acceptTableStart g c v) :=
      (hv'.frame.chain (ds := [.reg, .roster, .line]) (frame_withReg _ _) (by decide) (by decide)).chain (frame_withSync _ _) (by decide) (by decide)
    refine ⟨_, hex, ?_, ?_, hf.finish hp.quiet⟩
    · rw [finish_reg _ hp.quiet, ← hv'.reg]
      rfl
    · rw [finish_sync _ hp.quiet, ← hv'.sync]
      rfl
  · have hnot : ¬(fromResponder n.val q v && v.sync.phase == .awaiting && decide (c ≤ 24)) = true := by
      intro h
      rw [Bool.and_eq_true, Bool.and_eq_true, fromResponder_of, hstrap, hv'.sync] at h
      obtain ⟨⟨⟨h1, h2⟩, h3⟩, h4⟩ := h
      rcases hno with hi | hi | hi | hi
      · exact hi h1
      · exact hi h2
      · exact hi (by simpa using h3)
      · have : c ≤ 24 := by simpa using h4
        omega
    rw [hother hn, if_neg hnot] at hex
    exact ⟨_, hex, hv'.frame.finish hv'.posting.quiet⟩
  · have hact : takeTableStart n.val q g c v = v.post (answerPost q 0 snap) := by
      unfold takeTableStart
      rw [hstrap, if_pos hn, answerNext_of (by rw [hv'.sync, ha]) (by rw [hv'.sync, hw])]
      exact if_neg (by simp [fromResponder, hstrap, hq])
    rw [hact] at hex
    have hp := hv'.posting.post (answerPost q 0 snap) (by simp)
    refine ⟨_, hex, ?_, (hv'.frame.chain (frame_post _ _) (by decide) (by decide)).finish hp.quiet⟩
    rw [hp.finish.newPosts hs.2]
    unfold answerPost
    cases hsnap : snap.entries <;> simp

/-- Settles O28. -/
theorem tableEntryIsCopied : Obligations.TableEntryIsCopied := by
  intro n q i k b s hs
  obtain ⟨v, hv, hv'⟩ := hs.receives.delivers n (some (.tableEntry q i k b))
  have hex : exec (.tableEntry n q i k b) s = .next (finish (takeTableEntry n.val q i k b v)) :=
    congrArg Host.Outcome.next (hv _)
  have hstrap : v.strap = s.strap := hv'.frame.strap
  have hother : n.val ≠ s.strap → takeTableEntry n.val q i k b v
      = if (fromResponder n.val q v && v.sync.phase == .copying) = true
        then if entryInOrder i k b v.sync = true then copyEntry k b v else failAttempt v else v := by
    intro hn
    unfold takeTableEntry
    rw [hstrap, if_neg hn]
  refine ⟨fun hn hq hresp hph => ?_, fun hn hno => ?_, fun snap hn hq ha hw => ?_⟩
  · have hfrom : fromResponder n.val q v = true :=
      fromResponder_of.mpr ⟨by rw [hstrap, hq], by rw [hv'.sync, hresp]⟩
    rw [hother hn, if_pos (by simp [hfrom, hv'.sync, hph])] at hex
    refine ⟨fun hi hroom hk hb => ?_, fun hbad => ?_⟩
    · rw [if_pos (by simp [entryInOrder, hv'.sync, hi, hroom, hk, hb])] at hex
      have hp : Posting s (copyEntry k b v) [] := hv'.posting
      have hf : FrameBut [.reg, .sync, .roster, .line] s (copyEntry k b v) :=
        (hv'.frame.chain (ds := [.reg, .roster, .line]) (frame_withReg _ _) (by decide) (by decide)).chain (frame_withSync _ _) (by decide) (by decide)
      refine ⟨_, hex, ?_, ?_, hf.finish hp.quiet⟩
      · rw [finish_reg _ hp.quiet, ← hv'.reg]
        rfl
      · rw [finish_sync _ hp.quiet, ← hv'.sync]
        rfl
    · have hnot : ¬entryInOrder i k b v.sync = true := by
        simp only [entryInOrder, hv'.sync, Bool.and_eq_true, beq_iff_eq, decide_eq_true_eq]
        rintro ⟨⟨⟨h1, h2⟩, h3⟩, h4⟩
        rcases hbad with hi | hi | hi | hi
        · exact hi h1
        · omega
        · simp [hi] at h3
        · simp [hi] at h4
      rw [if_neg hnot] at hex
      obtain ⟨qs, -, -, hp⟩ := hv'.posting.failAttempt (by simp)
      obtain ⟨h1, -, h3, h4⟩ := failAttempt_atEase v
      rw [← finish_sync _ hp.quiet] at h1 h3 h4
      exact ⟨_, hex, h1, h3, h4, (hv'.frame.chain (frame_failAttempt _) (by decide) (by decide)).finish hp.quiet⟩
  · have hnot : ¬(fromResponder n.val q v && v.sync.phase == .copying) = true := by
      rw [Bool.and_eq_true, fromResponder_of, hstrap, hv'.sync, beq_iff_eq]
      tauto
    rw [hother hn, if_neg hnot] at hex
    exact ⟨_, hex, hv'.posting.finish.newPosts hs.2, hv'.frame.finish hv'.posting.quiet⟩
  · have hact : takeTableEntry n.val q i k b v = v.post (answerPost q (i + 1) snap) := by
      unfold takeTableEntry
      rw [hstrap, if_pos hn, answerNext_of (by rw [hv'.sync, ha]) (by rw [hv'.sync, hw])]
      exact if_neg (by simp [fromResponder, hstrap, hq])
    rw [hact] at hex
    have hp := hv'.posting.post (answerPost q (i + 1) snap) (by simp)
    refine ⟨_, hex, ?_, (hv'.frame.chain (frame_post _ _) (by decide) (by decide)).finish hp.quiet⟩
    rw [hp.finish.newPosts hs.2]
    rfl

/-- Settles O29. -/
theorem tableEndMakesCurrent : Obligations.TableEndMakesCurrent := by
  intro n q c s hs
  obtain ⟨v, hv, hv'⟩ := hs.receives.delivers n (some (.tableEnd q c))
  have hex : exec (.tableEnd n q c) s = .next (finish (takeTableEnd n.val q c v)) :=
    congrArg Host.Outcome.next (hv _)
  have hstrap : v.strap = s.strap := hv'.frame.strap
  have hother : n.val ≠ s.strap → takeTableEnd n.val q c v
      = if (fromResponder n.val q v && v.sync.phase == .copying) = true then endCopy c v else v := by
    intro hn
    unfold takeTableEnd
    rw [hstrap, if_neg hn]
  refine ⟨fun hn hq hresp hph hsyn hc => ?_, fun a hn hq ha hw => ?_, fun hn hno => ?_⟩
  · have hfrom : fromResponder n.val q v = true :=
      fromResponder_of.mpr ⟨by rw [hstrap, hq], by rw [hv'.sync, hresp]⟩
    rw [hother hn, if_pos (by simp [hfrom, hv'.sync, hph])] at hex
    refine ⟨fun he hr => ?_, fun hbad => ?_⟩
    · obtain ⟨hf, hl, hreg, hsync⟩ := endCopy_idle (s := v) (n := c) (by rw [hv'.cue, hc]) (by rw [hv'.reg, hsyn])
        (by rw [hv'.sync, he]) (by rw [hv'.sync, hr])
      have hp : Posting s (endCopy c v) [] := hv'.posting.congr hl
      have ht := (finish_sync _ hp.quiet).trans hsync
      refine ⟨_, hex, ?_, ?_, ?_, ?_, ?_, ?_, (hv'.frame.chain hf (by decide) (by decide)).finish hp.quiet⟩
      · rw [finish_reg _ hp.quiet, hreg, hv'.reg, hv'.sync]
      all_goals
        rw [ht]
        rfl
    · rw [endCopy_fails (by rw [hv'.sync]; exact hbad)] at hex
      obtain ⟨qs, -, -, hp⟩ := hv'.posting.failAttempt (by simp)
      obtain ⟨h1, -, h3, h4⟩ := failAttempt_atEase v
      rw [← finish_sync _ hp.quiet] at h1 h3 h4
      exact ⟨_, hex, h1, h3, h4, (hv'.frame.chain (frame_failAttempt _) (by decide) (by decide)).finish hp.quiet⟩
  · have hact : takeTableEnd n.val q c v = endAnswer v := by
      unfold takeTableEnd
      rw [hstrap, if_pos hn, answerDone_of (by rw [hv'.sync, ha]) (by rw [hv'.sync, hw])]
      refine if_neg ?_
      simp [fromResponder, (frame_endAnswer v).strap, hstrap, hq]
    rw [hact, endAnswer_eq, hv'.sync, List.drop_one] at hex
    have hp := hv'.posting.withSync { s.sync with waitList := s.sync.waitList.tail, answer := none }
    have hf := hv'.frame.chain (ds := [.sync, .roster, .line])
      (frame_withSync v { s.sync with waitList := s.sync.waitList.tail, answer := none }) (by decide) (by decide)
    refine ⟨fun ht => ?_, fun q' waiting ht => ?_⟩
    · rw [serveNext_none (by rw [State.withSync_sync, ht])] at hex
      refine ⟨_, hex, ?_, hp.finish.newPosts hs.2, hf.finish hp.quiet⟩
      rw [finish_sync _ hp.quiet, State.withSync_sync, ht]
    · rw [serveNext_cons (q := q') (qs := waiting) (by rw [State.withSync_sync, ht])] at hex
      rw [State.withSync_sync, ht] at hex
      rw [ht] at hp hf
      have hp' := (hp.withSync { s.sync with waitList := q' :: waiting, answer := some ⟨none⟩ }).post
        (.tableStart q' 0 0) (by simp)
      refine ⟨_, hex, ?_, hp'.finish.newPosts hs.2,
        ((hf.chain (ds := [.sync, .roster, .line]) (frame_withSync _ _) (by decide) (by decide)).chain (frame_post _ _) (by decide) (by decide)).finish hp'.quiet⟩
      exact finish_sync _ hp'.quiet
  · have hnot : ¬(fromResponder n.val q v && v.sync.phase == .copying) = true := by
      rw [Bool.and_eq_true, fromResponder_of, hstrap, hv'.sync, beq_iff_eq]
      tauto
    rw [hother hn, if_neg hnot] at hex
    exact ⟨_, hex, hv'.posting.finish.newPosts hs.2, hv'.frame.finish hv'.posting.quiet⟩

end

section
/-! The timers of the sync protocol. -/

namespace Sys2Proof.Machine

theorem exec_aloneWindow {s : State} (h : Calm s) : exec .aloneWindowExpiry s = .next (finish (aloneEnds s)) :=
  congrArg Host.Outcome.next (event_calm aloneEnds h)

theorem exec_attemptTimer {s : State} (h : Calm s) (x : Nat) (hx : s.sync.attemptTimer = some x) :
    exec .attemptTimerExpiry s = .next (finish (failAttempt s)) := by
  refine (congrArg Host.Outcome.next (event_calm attemptEnds h)).trans ?_
  rw [attemptEnds, if_pos (by rw [hx]; rfl)]

/-- The sync unit where a new round begins (02 R39). -/
def SyncUnit.newRound (u : SyncUnit) : SyncUnit :=
  { u with phase := .idle, responder := none, failed := 0, retryTimer := none }

/-- The choice of a new round. -/
theorem choice_newRound (s : State) :
    (choice (s.withSync s.sync.newRound)).sync.failed = 0
      ∧ (choice (s.withSync s.sync.newRound)).sync.retryTimer = none
      ∧ ((choice (s.withSync s.sync.newRound)).sync.phase = .idle
        ∨ (choice (s.withSync s.sync.newRound)).sync.phase = .posting) := by
  rcases choice_cases (s.withSync s.sync.newRound) with ⟨-, r, -, hc⟩ | ⟨ho, -, -, -, hc⟩ | hc
  · rw [hc]
    exact ⟨rfl, rfl, .inr rfl⟩
  · have hsyn := ((choiceOpen_iff _).mp ho).1
    rw [hc, startRigAlone_of (by rw [hsyn]; decide)]
    exact ⟨rfl, rfl, .inl rfl⟩
  · rw [hc]
    exact ⟨rfl, rfl, .inl rfl⟩

theorem exec_retryTimer {s : State} (h : Calm s) (x : Nat) (hx : s.sync.retryTimer = some x) :
    exec .retryTimerExpiry s = .next (finish (choice (s.withSync s.sync.newRound))) := by
  refine (congrArg Host.Outcome.next (event_calm retryEnds h)).trans ?_
  rw [retryEnds, if_pos (by rw [hx]; rfl)]
  rfl

/-- The choice asks the next responder: an attempt has begun. -/
theorem attemptBegun_of {s : State} (hs : CalmOn s) {u : SyncUnit} {r f : Nat} (hf : u.failed = f)
    (ho : choiceOpen (s.withSync u) = true) (hr : nextAsked s u.responder r) :
    ∃ v, choice (s.withSync u) = v ∧ v.sync = { u with phase := .posting, responder := some r }
      ∧ v.line.reports = [] ∧ attemptBegun s (finish v) r f := by
  have hc := choice_asks ho (show nextAsked (s.withSync u) u.responder r from hr)
  have hp := ((Posting.refl hs.1).withSync u).beginAttempt (by simp) r
  refine ⟨_, hc, rfl, hp.quiet, ?_⟩
  have hsync := finish_sync _ hp.quiet
  refine ⟨by rw [hsync]; rfl, by rw [hsync]; rfl, by rw [hsync]; exact hf, ?_, hp.finish.newPosts hs.2,
    ((frame_withSync s u).chain (frame_beginAttempt r _) (by decide) (by decide)).finish hp.quiet⟩
  rw [finish_reg _ hp.quiet]
  rfl

/-- The rig started alone, from a sync unit `u`. -/
theorem startRigAlone_from {s : State} (hs : CalmOn s) {u : SyncUnit} (hr : s.reg.state = .syncing) :
    ∃ v, startRigAlone (s.withSync u) = v ∧ Posting s v [] ∧ v.sync = u.settled
      ∧ v.reg = { s.reg with table := [], generation := 0, state := .current }
      ∧ FrameBut [.reg, .sync, .roster] s v := by
  refine ⟨_, rfl, ((Posting.refl hs.1).withSync u).startRigAlone, ?_, ?_,
    (frame_withSync s u).chain (frame_startRigAlone _) (by decide) (by decide)⟩
  all_goals
    rw [startRigAlone_of (by rw [State.withSync_reg, hr]; decide)]
    rfl

end Sys2Proof.Machine

open Sys2Proof Sys2Proof.Machine

/-- Settles O30. -/
theorem syncTimersExpire : Obligations.SyncTimersExpire := by
  intro s hs
  have h0 := Posting.refl hs.1
  refine ⟨fun halone hsyn => ?_, fun x hx hlast => ?_, fun x hx hmore => ?_, fun x hx => ?_⟩
  · have hex := exec_aloneWindow hs.1
    have hact : aloneEnds s = if s.sync.winchSeen = true then choice (s.withSync { s.sync with alone := .expired })
        else startRigAlone (s.withSync { s.sync with alone := .expired }) := by
      unfold aloneEnds
      rw [if_pos halone]
      exact if_pos ⟨hs.2, hsyn⟩
    rw [hact] at hex
    refine ⟨fun hseen => ?_, fun r hseen hidle hr => ?_, fun hseen hidle => ?_⟩
    · obtain ⟨v, hv, hp, hsync, hreg, hf⟩ := startRigAlone_from hs (u := { s.sync with alone := .expired }) hsyn
      rw [if_neg (by simp [hseen]), hv] at hex
      have hsync' := (finish_sync _ hp.quiet).trans hsync
      refine ⟨_, hex, ?_, ?_, ?_, ?_, hf.finish hp.quiet⟩
      · rw [hsync']
        rfl
      · rw [finish_reg _ hp.quiet, hreg]
      · rw [hsync']
        rfl
      · rw [hsync']
        rfl
    · have ho : choiceOpen (s.withSync { s.sync with alone := .expired }) = true :=
        (choiceOpen_iff _).mpr ⟨hsyn, hidle, hs.2, .inr (.inl rfl)⟩
      obtain ⟨v, hv, hsync, hq, hb⟩ := attemptBegun_of hs (u := { s.sync with alone := .expired }) rfl ho hr
      rw [if_pos hseen, hv] at hex
      refine ⟨_, hex, ?_, hb⟩
      rw [finish_sync _ hq, hsync]
    · have ho : choiceOpen (s.withSync { s.sync with alone := .expired }) = false := by
        rw [Bool.eq_false_iff]
        intro h
        exact hidle ((choiceOpen_iff _).mp h).2.1
      rw [if_pos hseen, choice_closed ho] at hex
      have hp := h0.withSync { s.sync with alone := .expired }
      exact ⟨_, hex, finish_sync _ hp.quiet, (frame_withSync s _).finish hp.quiet⟩
  · have hex := exec_attemptTimer hs.1 x hx
    rw [failAttempt_last (by omega)] at hex
    have hp := (h0.withSync { s.sync.failing with phase := .resting, retryTimer := some 5000 }).notice .syncFailed s.strap
      none (s.sync.responder.getD 0) (by simp)
    have hsync := finish_sync _ hp.quiet
    refine ⟨_, hex, ?_, ?_, ?_, ?_, ?_, hp.finish.newPosts hs.2,
      ((frame_withSync s _).chain (frame_notice _ _ _ _ _) (by decide) (by decide)).finish hp.quiet⟩
    case refine_2 =>
      rw [hsync]
      exact hlast
    all_goals
      rw [hsync]
      rfl
  · have hex := exec_attemptTimer hs.1 x hx
    refine ⟨?_, fun hsyn hwin => ⟨fun r hr => ?_, fun hnone hlow => ?_, fun hnone hlow hb => ?_⟩⟩
    · obtain ⟨qs, -, -, hp⟩ := h0.failAttempt (by simp)
      obtain ⟨h1, h2, h3, h4⟩ := failAttempt_atEase s
      rw [← finish_sync _ hp.quiet] at h1 h2 h3 h4
      exact ⟨_, hex, h1, h2, h3, h4, (frame_failAttempt s).finish hp.quiet⟩
    all_goals
      have ho : choiceOpen (s.withSync s.sync.failing) = true := (choiceOpen_iff _).mpr ⟨hsyn, rfl, hs.2, hwin⟩
      rw [failAttempt_again hmore] at hex
    · obtain ⟨v, hv, hsync, hq, hbegun⟩ := attemptBegun_of hs (u := s.sync.failing) rfl ho hr
      rw [hv] at hex
      refine ⟨_, hex, ?_, ?_, hbegun⟩
      · rw [finish_sync _ hq, hsync]
        rfl
      · rw [finish_sync _ hq, hsync]
        rfl
    · have hlow' : lowestPresent (s.withSync s.sync.failing) = false := by
        rw [Bool.eq_false_iff, Ne, lowestPresent_iff]
        intro h
        obtain ⟨m, h1, h2, h3⟩ := hlow
        have := h m h1 h2
        rw [State.withSync_roster, h3] at this
        exact absurd this (by simp)
      rw [choice_waits (s := s.withSync s.sync.failing) hnone hlow'] at hex
      have hp := h0.withSync s.sync.failing
      have hsync := finish_sync _ hp.quiet
      refine ⟨_, hex, by rw [hsync]; rfl, by rw [hsync]; rfl, ?_, hp.finish.newPosts hs.2,
        (frame_withSync s _).finish hp.quiet⟩
      rw [finish_reg _ hp.quiet]
      rfl
    · rw [choice_alone (s := s.withSync s.sync.failing) ho hnone ((lowestPresent_iff _).mpr hlow) hb] at hex
      obtain ⟨v, hv, hp, hsync, hreg, hf⟩ := startRigAlone_from hs (u := s.sync.failing) hsyn
      rw [hv] at hex
      have hsync' := (finish_sync _ hp.quiet).trans hsync
      refine ⟨_, hex, ?_, by rw [hsync']; rfl, by rw [hsync']; rfl, hp.finish.newPosts hs.2, hf.finish hp.quiet⟩
      rw [finish_reg _ hp.quiet, hreg]
  · have hex := exec_retryTimer hs.1 x hx
    refine ⟨?_, fun r hsyn hwin hr => ?_⟩
    · obtain ⟨qs, -, -, hp⟩ := (h0.withSync s.sync.newRound).choice (by simp)
      have hsync := finish_sync _ hp.quiet
      have hf := ((frame_withSync s s.sync.newRound).chain (frame_choice _) (ds := [.reg, .sync, .roster, .line]) (by decide) (by decide)).finish
        hp.quiet
      refine ⟨_, hex, ?_⟩
      rw [hsync]
      obtain ⟨h1, h2, h3⟩ := choice_newRound s
      exact ⟨h1, h2, h3, hf⟩
    · have ho : choiceOpen (s.withSync s.sync.newRound) = true := (choiceOpen_iff _).mpr ⟨hsyn, rfl, hs.2, hwin⟩
      obtain ⟨v, hv, hsync, hq, hbegun⟩ := attemptBegun_of hs (u := s.sync.newRound) rfl ho hr
      rw [hv] at hex
      refine ⟨_, hex, ?_, hbegun⟩
      rw [finish_sync _ hq, hsync]
      rfl

end

section
/-! The posts of cues: CUE, DONE and DROP. -/

namespace Sys2Proof.Machine

/-! ### CUE (03 R47) -/

theorem frame_takeCuePost (e : CueEntry) (s : State) : FrameBut [.cue, .line] s (takeCuePost e s) := by
  unfold takeCuePost
  refine .ite ?_ (.refl _ s)
  split
  · exact (frame_notice s _ _ _ _).over (by decide)
  · exact (frame_withCue s _).over (by decide)

theorem takeCuePost_other {e : CueEntry} {s : State} (h : e.flyer ≠ s.flyer) : takeCuePost e s = s := if_neg h

theorem takeCuePost_refused {e : CueEntry} {s : State} {code : NoticeCode} (h : e.flyer = s.flyer)
    (hr : cueRefusal e.showNo e.segment s = some code) :
    takeCuePost e s = s.notice code e.caller (noticeSegment e.segment) e.showNo := by
  simp [takeCuePost, h, hr]

theorem takeCuePost_queued {e : CueEntry} {s : State} (h : e.flyer = s.flyer)
    (hr : cueRefusal e.showNo e.segment s = none) :
    takeCuePost e s = s.withCue { s.cue with queue := s.cue.queue ++ [e] } := by
  simp [takeCuePost, h, hr, appendCue]

theorem cueTrigger_some {ts tg : Nat} (h : ts ≤ 47) : cueTrigger ts tg = some (ts, tg) := if_pos h

/-- CUE with a trigger that is none or well coded. -/
theorem exec_cue {n : Fin 48} {f sh sg reps ts tg d : Nat} {s v : State}
    (hv : ∀ act, deliver n (some (.cue f sh sg reps ts tg d)) act s = finish (act v))
    (hts : ts = 255 ∨ (ts ≤ 47 ∧ tg ≤ 47)) :
    exec (.cue n f sh sg reps ts tg d) s
      = .next (finish (takeCuePost (cueEntryOf n.val f sh sg reps ts tg d) v)) := by
  have hcoded : cueIllCoded ts tg = false := by
    rcases hts with rfl | ⟨h1, h2⟩
    · rfl
    · simp [cueIllCoded, h1, h2]
  have hex : exec (.cue n f sh sg reps ts tg d) s = .next (deliver n (some (.cue f sh sg reps ts tg d))
      (if cueIllCoded ts tg then id else takeCuePost (cueEntryOf n.val f sh sg reps ts tg d)) s) := rfl
  rw [hex, hcoded, hv]
  rfl

/-! ### DROP (03 R66) -/

/-- The cue unit without the queue entries of a show and segment. -/
def CueUnit.unqueued (u : CueUnit) (sh sg : Nat) : CueUnit :=
  { u with
    queue := u.queue.filter (fun e => !e.names sh sg)
    chainDelay := if u.queue.head?.any (fun e => e.names sh sg) then none else u.chainDelay }

theorem removeQueued_eq (sh sg : Nat) (s : State) : removeQueued sh sg s = s.withCue (s.cue.unqueued sh sg) := by
  unfold removeQueued CueUnit.unqueued
  cases s.cue.queue <;> rfl

theorem tooLate_running {n sh sg : Nat} {s : State} {c : CurrentCue} (hc : s.cue.current = some c)
    (hp : c.phase = .running) (h1 : c.showNo = sh) (h2 : c.segment = sg) :
    tooLate n sh sg s = s.notice .tooLate n (noticeSegment sg) sh := by
  simp [tooLate, hc, hp, h1, h2]

theorem tooLate_none {n sh sg : Nat} {s : State} (h : s.cue.current = none) : tooLate n sh sg s = s := by
  simp [tooLate, h]

theorem tooLate_not {n sh sg : Nat} {s : State}
    (h : ∀ c, s.cue.current = some c → c.showNo ≠ sh ∨ c.segment ≠ sg) : tooLate n sh sg s = s := by
  unfold tooLate
  split
  · rename_i c hc
    refine if_neg fun hm => ?_
    rcases h c hc with hn | hn
    · exact hn hm.2.1
    · exact hn hm.2.2
  · rfl

/-- What a DROP does after the queue's part: it drops an armed match, comes too late for a running one, and else does nothing. -/
theorem drop_cases (n sh sg : Nat) (s : State) :
    (∃ c, s.cue.current = some c ∧ c.phase = .armed ∧ c.showNo = sh ∧ c.segment = sg
      ∧ tooLate n sh sg (dropMatching sh sg .drop s) = dropArmed c .drop true s)
    ∨ (∃ c, s.cue.current = some c ∧ c.phase = .running ∧ c.showNo = sh ∧ c.segment = sg
      ∧ tooLate n sh sg (dropMatching sh sg .drop s) = s.notice .tooLate n (noticeSegment sg) sh)
    ∨ ((∀ c, s.cue.current = some c → c.showNo ≠ sh ∨ c.segment ≠ sg)
      ∧ tooLate n sh sg (dropMatching sh sg .drop s) = s) := by
  by_cases hm : ∃ c, s.cue.current = some c ∧ c.showNo = sh ∧ c.segment = sg
  · obtain ⟨c, hc, h1, h2⟩ := hm
    cases hp : c.phase with
    | armed =>
      refine .inl ⟨c, hc, hp, h1, h2, ?_⟩
      subst h1 h2
      rw [dropMatching_armed .drop hc hp]
      exact tooLate_none (by rw [dropArmed_cue]; rfl)
    | running =>
      refine .inr (.inl ⟨c, hc, hp, h1, h2, ?_⟩)
      rw [dropMatching_of_not sh sg .drop (fun d hd => by rw [hc] at hd; cases hd; exact .inl hp)]
      exact tooLate_running hc hp h1 h2
  · push Not at hm
    have hno : ∀ c, s.cue.current = some c → c.showNo ≠ sh ∨ c.segment ≠ sg := by
      intro c hc
      by_cases h1 : c.showNo = sh
      · exact .inr (hm c hc h1)
      · exact .inl h1
    refine .inr (.inr ⟨hno, ?_⟩)
    rw [dropMatching_of_not sh sg .drop (fun d hd => .inr (hno d hd))]
    exact tooLate_not hno

/-- DROP for the station's flyer. -/
theorem exec_drop {n : Fin 48} {sh sg : Nat} {s v : State}
    (hv : ∀ act, deliver n (some (.drop s.flyer sh sg)) act s = finish (act v)) (hf : v.flyer = s.flyer) (hsg : sg ≤ 47) :
    exec (.drop n s.flyer sh sg) s
      = .next (finish (tooLate n.val sh sg (dropMatching sh sg .drop (v.withCue (v.cue.unqueued sh sg))))) := by
  have hex : exec (.drop n s.flyer sh sg) s
      = .next (deliver n (some (.drop s.flyer sh sg)) (takeDrop n.val s.flyer sh sg) s) := rfl
  rw [hex, hv, takeDrop, if_pos ⟨hf.symm, hsg⟩, removeQueued_eq]

/-! ### The queue after a drop -/

theorem Line.mem_offer {l : Line} {p : Post} {u : PostUse} {o : OutPost} (h : o ∈ (Line.offer l p u).queue) :
    o ∈ l.queue ∨ o.post = p := by
  have htail : ∀ q : List OutPost, q ⊆ l.queue → o ∈ q ++ [⟨p, u, l.nextAge⟩] → o ∈ l.queue ∨ o.post = p := by
    intro q hq ho
    rcases List.mem_append.mp ho with ho | ho
    · exact .inl (hq ho)
    · exact .inr (by rw [List.mem_singleton.mp ho])
  unfold Line.offer at h
  split at h
  · exact .inl h
  · exact .inl h
  · exact .inl h
  all_goals
    simp only at h
    split at h
    · exact htail _ (fun _ hm => hm) h
    · split at h
      · exact htail _ (fun _ hm => List.mem_of_mem_eraseP hm) h
      · exact .inl h

/-- A dropped cue leaves none of its posts but its CUT and the RELEASE in the queue. -/
theorem lineDropping_queue {c : CurrentCue} {r : CutReason} {w : Bool} {s : State} {o : OutPost}
    (h : o ∈ (lineDropping c r w s).queue) :
    postOfCue c (r == .space) o = false ∨ o.post = .cut s.flyer c.segment c.reps 0 r.code
      ∨ o.post = .release c.runKey := by
  have hwith : ∀ o ∈ (Line.withdraw (lineEntering s.axis.state (originState s.axis) s.line)
      (postOfCue c (r == .space))).queue, postOfCue c (r == .space) o = false := by
    intro o ho
    simpa using (List.mem_filter.mp ho).2
  have hcut : ∀ o ∈ (if w then Line.offer (Line.withdraw (lineEntering s.axis.state (originState s.axis) s.line)
        (postOfCue c (r == .space))) (.cut s.flyer c.segment c.reps 0 r.code) .plain
      else Line.withdraw (lineEntering s.axis.state (originState s.axis) s.line)
        (postOfCue c (r == .space))).queue,
      postOfCue c (r == .space) o = false ∨ o.post = .cut s.flyer c.segment c.reps 0 r.code := by
    intro o ho
    split at ho
    · exact (Line.mem_offer ho).imp_left (hwith o)
    · exact .inl (hwith o ho)
  unfold lineDropping lineGivingBack at h
  split at h
  · rcases Line.mem_offer h with h | h
    · exact (hcut o h).imp_right .inl
    · exact .inr (.inr h)
  · exact (hcut o h).imp_right .inl

theorem lineDropping_slot {c : CurrentCue} {r : CutReason} {w : Bool} {s : State}
    (h : s.axis.state ≠ originState s.axis) (hl : s.line.state = .on) :
    (lineDropping c r w s).slot.isSome = true := by
  have hs := lineEntering_slot h hl
  have hcut : (if w then Line.offer (Line.withdraw (lineEntering s.axis.state (originState s.axis) s.line)
        (postOfCue c (r == .space))) (.cut s.flyer c.segment c.reps 0 r.code) .plain
      else Line.withdraw (lineEntering s.axis.state (originState s.axis) s.line)
        (postOfCue c (r == .space))).slot.isSome = true := by
    cases w <;> simpa using hs
  unfold lineDropping lineGivingBack
  split
  · rw [Line.offer_slot]
    exact hcut
  · exact hcut

end Sys2Proof.Machine

open Sys2Proof Sys2Proof.Machine

/-- Settles O31. -/
theorem cueIsQueuedOrRefused : Obligations.CueIsQueuedOrRefused := by
  intro n f sh sg reps ts tg d s hs hts
  obtain ⟨v, hv, hv'⟩ := hs.delivers n (some (.cue f sh sg reps ts tg d))
  have hex := exec_cue hv hts
  have hflyer : v.flyer = s.flyer := hv'.frame.flyer
  refine ⟨fun hf => ?_, fun hf => ?_⟩
  · have hrefusal : cueRefusal sh sg v = cueRefusal sh sg s := by
      simp [cueRefusal, hv'.cue, hv'.store, hv'.lock]
    intro refusal
    have hcode : refusal = (cueRefusal sh sg s).map NoticeCode.code := by
      simp only [refusal, cueRefusal, List.any_eq_true, Bool.and_eq_true, beq_iff_eq, Config.maxCues]
      split_ifs <;> rfl
    have hfr := hv'.frame.chain (ds := [.cue, .roster, .line])
      (frame_takeCuePost (cueEntryOf n.val f sh sg reps ts tg d) v) (by decide) (by decide)
    have hfe : (cueEntryOf n.val f sh sg reps ts tg d).flyer = v.flyer := by rw [hflyer, ← hf]; rfl
    rw [hcode]
    cases hr : cueRefusal sh sg s with
    | some code =>
      rw [takeCuePost_refused hfe (hrefusal.trans hr)] at hex hfr
      have hp := hv'.posting.notice code n.val (noticeSegment sg) sh (by simp)
      refine ⟨_, hex, hfr.finish hp.quiet, ?_, ?_⟩
      · have := finish_cue _ hp.quiet
        rw [show (v.notice code n.val (noticeSegment sg) sh).cue = s.cue from hv'.cue] at this
        exact this
      · rw [← hflyer]
        exact hp.finish.posted
    | none =>
      rw [takeCuePost_queued hfe (hrefusal.trans hr), hv'.cue] at hex hfr
      have hp := hv'.posting.withCue
        { s.cue with queue := s.cue.queue ++ [cueEntryOf n.val f sh sg reps ts tg d] }
      refine ⟨_, hex, hfr.finish hp.quiet, hp.finish.newPosts_nil hs, cueEntryOf n.val f sh sg reps ts tg d, ?_, rfl, rfl,
        rfl, rfl, rfl, ?_, ?_, rfl⟩
      · exact finish_cue _ hp.quiet
      · rcases hts with rfl | ⟨h1, -⟩
        · rfl
        · rw [if_neg (by omega)]
          exact cueTrigger_some h1
      · intro hne
        have h1 : ts ≤ 47 := (hts.resolve_left hne).1
        simp [cueEntryOf, cueTrigger_some h1]
  · rw [takeCuePost_other (by rw [hflyer]; exact hf)] at hex
    exact ⟨_, hex, hv'.frame.finish hv'.posting.quiet⟩

/-- Settles O38. -/
theorem doneSetsTriggerSeen : Obligations.DoneSetsTriggerSeen := by
  intro n f sg reps s hs
  obtain ⟨v, hv, hv'⟩ := hs.delivers n (some (.done f sg reps))
  have hex : exec (.done n f sg reps) s = .next (finish (takeDone n.val sg v)) := congrArg Host.Outcome.next (hv _)
  have hp : Posting s (takeDone n.val sg v) [] := hv'.posting
  have hf : FrameBut [.cue, .roster, .line] s (takeDone n.val sg v) := hv'.frame.chain (frame_withCue _ _) (by decide) (by decide)
  have hqueue : (finish (takeDone n.val sg v)).cue.queue
      = s.cue.queue.map (fun e => if e.trigger = some (n.val, sg) then { e with seen := true } else e) := by
    rw [finish_queue hp.quiet, ← hv'.cue]
    rfl
  refine ⟨_, hex, ?_, ?_, fun i e he => ⟨fun ht => ?_, fun ht => ?_⟩, hf.finish hp.quiet⟩
  · have := finish_cue _ hp.quiet
    rw [hqueue, ← hv'.cue]
    exact this
  · rw [hqueue, List.length_map]
  · rw [hqueue, List.getElem?_map, he, Option.map_some, if_pos ht]
  · rw [hqueue, List.getElem?_map, he, Option.map_some, if_neg ht]

/-- Settles O32. -/
theorem dropRemovesOrDrops : Obligations.DropRemovesOrDrops := by
  intro n f sh sg s hs
  obtain ⟨v, hv, hv'⟩ := hs.receives.delivers n (some (.drop f sh sg))
  have hflyer : v.flyer = s.flyer := hv'.frame.flyer
  refine ⟨fun hf hsg => ?_, fun hno => ?_⟩
  · subst hf
    have hex := exec_drop hv hflyer hsg
    have hp : Posting s (v.withCue (v.cue.unqueued sh sg)) [] := hv'.posting
    have hfr : FrameBut [.cue, .roster, .line] s (v.withCue (v.cue.unqueued sh sg)) :=
      hv'.frame.chain (frame_withCue _ _) (by decide) (by decide)
    have hq : (v.withCue (v.cue.unqueued sh sg)).cue.queue
        = s.cue.queue.filter (fun e => !(e.showNo == sh && e.segment == sg)) := by
      rw [State.withCue_cue, hv'.cue]
      rfl
    have hcur : (v.withCue (v.cue.unqueued sh sg)).cue.current = s.cue.current := by
      rw [State.withCue_cue, hv'.cue]
      rfl
    have hwf : (v.withCue (v.cue.unqueued sh sg)).flyer = s.flyer := hflyer
    generalize v.withCue (v.cue.unqueued sh sg) = w at *
    rcases drop_cases n.val sh sg w with ⟨c, hc, hph, h1, h2, he⟩ | ⟨c, hc, hph, h1, h2, he⟩ | ⟨hno, he⟩
    · rw [hcur] at hc
      rw [he] at hex
      have hp' := hp.dropArmed c .drop true
      refine ⟨_, hex, ?_, fun d hd _ _ _ => ?_, fun d hd hdp _ _ => ?_, fun hno => ?_,
        (hfr.chain (frame_dropArmed c .drop true w) (by decide) (by decide)).finish hp'.quiet⟩
      · rw [finish_queue hp'.quiet, dropArmed_cue, ← hq]
        rfl
      · rw [hc] at hd
        cases hd
        rw [finish_current hp'.quiet, dropArmed_cue, hp'.finish.newPosts hs.2]
        refine ⟨rfl, ?_⟩
        simp [dropPosts, hwf, h2, CutReason.code]
      · rw [hc] at hd
        cases hd
        simp [hph] at hdp
      · exact absurd (hno c hc) (by simp [h1, h2])
    · rw [hcur] at hc
      rw [he] at hex
      have hp' := hp.notice .tooLate n.val (noticeSegment sg) sh (by simp)
      have hfr' : FrameBut [.cue, .roster, .line] s (w.notice .tooLate n.val (noticeSegment sg) sh) :=
        hfr.chain (frame_notice _ _ _ _ _) (by decide) (by decide)
      refine ⟨_, hex, ?_, fun d hd hdp _ _ => ?_, fun d hd _ _ _ => ?_, fun hno => ?_, (hfr'.over (by decide)).finish hp'.quiet⟩
      · rw [finish_queue hp'.quiet, State.notice_cue, hq]
      · rw [hc] at hd
        cases hd
        simp [hph] at hdp
      · rw [finish_current hp'.quiet, State.notice_cue, hcur, hp'.finish.newPosts hs.2, hwf]
        exact ⟨hd, by simp [noticeSegment, hsg, NoticeCode.code]⟩
      · exact absurd (hno c hc) (by simp [h1, h2])
    · rw [he] at hex
      rw [hcur] at hno
      refine ⟨_, hex, ?_, fun d hd _ h1 h2 => ?_, fun d hd _ h1 h2 => ?_, fun _ => ⟨?_, hp.finish.newPosts hs.2,
        hfr.finish hp.quiet⟩, (hfr.over (by decide)).finish hp.quiet⟩
      · rw [finish_queue hp.quiet, hq]
      · exact absurd (hno d hd) (by simp [h1, h2])
      · exact absurd (hno d hd) (by simp [h1, h2])
      · rw [finish_current hp.quiet, hcur]
  · have hex : exec (.drop n f sh sg) s = .next (finish v) := by
      refine (congrArg Host.Outcome.next (hv _)).trans ?_
      rw [takeDrop, if_neg]
      rw [hflyer]
      rintro ⟨h1, h2⟩
      rcases hno with h | h
      · exact h h1
      · omega
    exact ⟨_, hex, hv'.frame.finish hv'.posting.quiet⟩

/-- Settles O33. -/
theorem dropReturnsToOrigin : Obligations.DropReturnsToOrigin := by
  intro n c o s hs hc hph hsg hx ho hne
  obtain ⟨v, hv, hv'⟩ := hs.receives.delivers n (some (.drop s.flyer c.showNo c.segment))
  have hflyer : v.flyer = s.flyer := hv'.frame.flyer
  have hex := exec_drop hv hflyer hsg
  have hp : Posting s (v.withCue (v.cue.unqueued c.showNo c.segment)) [] := hv'.posting
  have hfr : FrameBut [.cue, .roster, .line] s (v.withCue (v.cue.unqueued c.showNo c.segment)) :=
    hv'.frame.chain (frame_withCue _ _) (by decide) (by decide)
  have hcue : (v.withCue (v.cue.unqueued c.showNo c.segment)).cue = s.cue.unqueued c.showNo c.segment := by
    rw [State.withCue_cue, hv'.cue]
  have hstate : (v.withCue (v.cue.unqueued c.showNo c.segment)).line.state = .on := hv'.state.trans hs.2
  generalize v.withCue (v.cue.unqueued c.showNo c.segment) = w at *
  have hwf : w.flyer = s.flyer := hfr.flyer
  have hax : w.axis = s.axis := hfr.block .axis (by decide)
  have hwc : w.cue.current = some c := by rw [hcue]; exact hc
  have horigin : originState s.axis = o := by rw [originState_armed hx, ho]; rfl
  have hback : givesBack w c ↔ givesBack s c := by
    unfold givesBack
    rw [hfr.isLead, hcue, show w.reg = s.reg from hfr.block .reg (by decide)]
    rfl
  rcases drop_cases n.val c.showNo c.segment w with ⟨d, hd, -, -, -, he⟩ | ⟨d, hd, hdp, -, -, he⟩ | ⟨hno, he⟩
  · rw [hwc] at hd
    cases hd
    rw [he] at hex
    have hp' := hp.dropArmed c .drop true
    have haxis : (finish (dropArmed c .drop true w)).axis = { s.axis with origin := none, state := o } := by
      rw [finish_axis _ hp'.quiet, dropArmed_axis, hax, horigin]
    refine ⟨_, hex, by rw [haxis], by rw [haxis], by rw [haxis], by rw [haxis], by rw [haxis], ?_, ?_, ?_, ?_,
      fun ms hm => ?_, ?_, ?_, (hfr.chain (frame_dropArmed c .drop true w) (by decide) (by decide)).finish hp'.quiet⟩
    · rw [finish_current hp'.quiet, dropArmed_cue]
      rfl
    · rw [finish_readyWait hp'.quiet, dropArmed_cue]
      rfl
    · rw [finish_spaceWait hp'.quiet, dropArmed_cue]
      rfl
    · rw [finish_held hp'.quiet, dropArmed_cue, hcue]
      rfl
    · rw [finish_line _ hp'.quiet, dropArmed_eq, State.withCue_line, State.withLine_line] at hm
      obtain ⟨q, hq, hqp⟩ := List.mem_map.mp hm
      rcases lineDropping_queue hq with h | h | h
      · simp [postOfCue, hqp] at h
      · simp [hqp] at h
      · simp [hqp] at h
    · rw [hp'.finish.newPosts hs.2, dropPosts, hwf]
      by_cases hb : givesBack s c
      · rw [if_pos (hback.mpr hb), if_pos hb]
        rfl
      · rw [if_neg (fun h => hb (hback.mp h)), if_neg hb]
        rfl
    · rw [finish_line _ hp'.quiet, dropArmed_eq, State.withCue_line, State.withLine_line]
      exact lineDropping_slot (by rw [hax, horigin, hx]; exact hne.symm) hstate
  · rw [hwc] at hd
    cases hd
    simp [hph] at hdp
  · exact absurd (hno c hwc) (by simp)

end

section
/-! The posts of the set start: READY, UNREADY and CUT. -/

namespace Sys2Proof.Machine

/-! ### The set ready table (03 R55, R56) -/

theorem setSlot_getElem? (ms : List Nat) (m : Nat) (x : Option (Nat × Nat)) (slots : List (Option (Nat × Nat)))
    (hfit : slots.length = ms.length) (i : Nat) (hi : i < ms.length) :
    (ms[i]? = some m → (setSlot ms m x slots)[i]? = some x)
      ∧ (ms[i]? ≠ some m → (setSlot ms m x slots)[i]? = slots[i]?) := by
  have hm : ms[i]? = some ms[i] := List.getElem?_eq_getElem hi
  have hs : slots[i]? = some slots[i] := List.getElem?_eq_getElem (by omega)
  rw [setSlot, List.getElem?_zipWith, hm, hs]
  refine ⟨fun h => ?_, fun h => ?_⟩
  · have : ms[i] = m := by simpa using h
    simp [this]
  · have : ms[i] ≠ m := by simpa using h
    simp [this]

theorem slotSet_of {s t : State} {m : Nat} {x : Option (Nat × Nat)} (hfit : SlotsFit s)
    (h : t.cue.slots = setSlot s.members m x s.cue.slots) : slotSet s t m x := by
  intro i hi
  rw [h]
  exact setSlot_getElem? s.members m x s.cue.slots hfit i hi

/-- The cue unit with the slot of a member written. -/
def CueUnit.slotted (u : CueUnit) (ms : List Nat) (m : Nat) (x : Option (Nat × Nat)) : CueUnit :=
  { u with slots := setSlot ms m x u.slots }

theorem putSlot_eq (s : State) (m : Nat) (x : Option (Nat × Nat)) :
    s.putSlot m x = s.withCue (s.cue.slotted s.members m x) := rfl

theorem isMember_iff (s : State) (n : Nat) : s.isMember n = true ↔ n ∈ s.members := by simp [State.isMember]

theorem dropMatching_cases (sh sg : Nat) (r : CutReason) (s : State) :
    (∃ c, s.cue.current = some c ∧ c.phase = .armed ∧ c.showNo = sh ∧ c.segment = sg
      ∧ dropMatching sh sg r s = dropArmed c r true s)
    ∨ ((∀ c, s.cue.current = some c → c.phase = .running ∨ c.showNo ≠ sh ∨ c.segment ≠ sg)
      ∧ dropMatching sh sg r s = s) := by
  by_cases hm : ∃ c, s.cue.current = some c ∧ c.phase = .armed ∧ c.showNo = sh ∧ c.segment = sg
  · obtain ⟨c, hc, hp, h1, h2⟩ := hm
    refine .inl ⟨c, hc, hp, h1, h2, ?_⟩
    subst h1 h2
    exact dropMatching_armed r hc hp
  · have hno : ∀ c, s.cue.current = some c → c.phase = .running ∨ c.showNo ≠ sh ∨ c.segment ≠ sg := by
      intro c hc
      by_contra h
      push Not at h
      refine hm ⟨c, hc, ?_, h.2.1, h.2.2⟩
      cases hp : c.phase with
      | armed => rfl
      | running => exact absurd hp h.1
    exact .inr ⟨hno, dropMatching_of_not sh sg r hno⟩

/-! ### READY (03 R54, R55, R57) -/

theorem exec_ready {n : Fin 48} {f sh sg : Nat} {ms : List Nat} {s v : State}
    (hv : ∀ act, deliver n (some (.ready f sh sg ms)) act s = finish (act v)) (h1 : 1 ≤ ms.length) (h4 : ms.length ≤ 4) :
    exec (.ready n f sh sg ms) s = .next (finish (takeReady n.val f sh sg ms v)) := by
  have hcoded : readyIllCoded ms = false := by simp [readyIllCoded, h1, h4]
  have hex : exec (.ready n f sh sg ms) s = .next (deliver n (some (.ready f sh sg ms))
      (if readyIllCoded ms then id else takeReady n.val f sh sg ms) s) := rfl
  rw [hex, hcoded, hv]
  rfl

theorem takeReady_matching {n sh sg : Nat} {s : State} (hn : n ∈ s.members) :
    takeReady n s.flyer sh sg s.members s = testStart (recordReady n sh sg s) := by
  simp [takeReady, readyConcerns, readyMatches, (isMember_iff s n).mpr hn]

theorem takeReady_mismatched {n f sh sg : Nat} {ms : List Nat} {s : State} (hc : f = s.flyer ∨ n ∈ s.members)
    (hno : ¬(n ∈ s.members ∧ f = s.flyer ∧ ms = s.members)) :
    takeReady n f sh sg ms s = testStart (mismatchReady n sh sg s) := by
  have h1 : readyConcerns n f s = true := by simpa [readyConcerns, isMember_iff] using hc
  have h2 : readyMatches n f ms s = false := by
    rw [Bool.eq_false_iff]
    simpa [readyMatches, isMember_iff, and_assoc] using hno
  simp [takeReady, h1, h2]

/-- What the recording of a READY leaves of the cue unit: the sender's slot is written, and the own READY of the armed cue starts the ready wait. -/
theorem recordReady_eq (n sh sg : Nat) (s : State) :
    ∃ w, recordReady n sh sg s = s.withCue { s.cue.slotted s.members n (some (sh, sg)) with readyWait := w }
      ∧ (n ≠ s.strap → w = s.cue.readyWait)
      ∧ ∀ c, n = s.strap → s.cue.current = some c → c.phase = .armed → c.showNo = sh → c.segment = sg →
          w = some 15000 := by
  unfold recordReady startReadyWait
  rw [putSlot_eq]
  by_cases hn : n = s.strap
  · simp only [hn, if_true]
    split
    · rename_i d hd
      split
      · exact ⟨some 15000, rfl, fun h => absurd rfl h, fun _ _ _ _ _ _ => rfl⟩
      · rename_i hno
        refine ⟨s.cue.readyWait, rfl, fun _ => rfl, fun c _ hc h1 h2 h3 => absurd ⟨?_, ?_, ?_⟩ hno⟩
        all_goals
          have : d = c := by
            have hd' : s.cue.current = some d := hd
            rw [hc] at hd'
            exact (Option.some.inj hd').symm
          rw [this]
          assumption
    · rename_i hnone
      exact ⟨s.cue.readyWait, rfl, fun _ => rfl, fun c _ hc _ _ _ => absurd (hnone.symm.trans hc) (by simp)⟩
  · simp only [hn, if_false]
    exact ⟨s.cue.readyWait, rfl, fun _ => rfl, fun _ h => h.elim⟩

/-- The delivery of a READY that matches the set. -/
theorem ready_recorded {n : Fin 48} {sh sg : Nat} {s v : State}
    (hv : ∀ act, deliver n (some (.ready s.flyer sh sg s.members)) act s = finish (act v))
    (hv' : Hears n (some (.ready s.flyer sh sg s.members)) s v) (hn : n.val ∈ s.members)
    (h1 : 1 ≤ s.members.length) (h4 : s.members.length ≤ 4) :
    ∃ w rw, exec (.ready n s.flyer sh sg s.members) s = .next (finish (testStart w)) ∧ Posting s w []
      ∧ FrameBut [.cue, .roster, .line] s w
      ∧ w.cue = { s.cue.slotted s.members n.val (some (sh, sg)) with readyWait := rw }
      ∧ (n.val ≠ s.strap → rw = s.cue.readyWait)
      ∧ ∀ c, n.val = s.strap → s.cue.current = some c → c.phase = .armed → c.showNo = sh → c.segment = sg →
          rw = some 15000 := by
  have hex := exec_ready hv h1 h4
  have hflyer : v.flyer = s.flyer := hv'.frame.flyer
  have hmem : v.members = s.members := hv'.frame.members
  have htake := takeReady_matching (s := v) (n := n.val) (sh := sh) (sg := sg) (by rw [hmem]; exact hn)
  rw [hflyer, hmem] at htake
  obtain ⟨x, hrec, hx, hown⟩ := recordReady_eq n.val sh sg v
  rw [hmem, hv'.cue] at hrec
  rw [hv'.cue, hv'.frame.strap] at hx hown
  rw [htake, hrec] at hex
  exact ⟨_, x, hex, hv'.posting, hv'.frame.chain (frame_withCue _ _) (by decide) (by decide), rfl, hx, hown⟩

/-- The start condition after a recorded READY, slot by slot. -/
theorem slots_ready {ms : List Nat} {n sh sg : Nat} {slots : List (Option (Nat × Nat))} (hfit : slots.length = ms.length) :
    (∀ x ∈ setSlot ms n (some (sh, sg)) slots, x = some (a, b))
      ↔ (n ∈ ms → sh = a ∧ sg = b) ∧ ∀ i, i < ms.length → ms[i]? ≠ some n → slots[i]? = some (some (a, b)) := by
  have hlen : (setSlot ms n (some (sh, sg)) slots).length = ms.length := by
    simp [setSlot, hfit]
  rw [List.forall_mem_iff_getElem]
  constructor
  · intro h
    refine ⟨fun hn => ?_, fun i hi hne => ?_⟩
    · obtain ⟨i, hi, hin⟩ := List.getElem_of_mem hn
      have hget := (setSlot_getElem? ms n (some (sh, sg)) slots hfit i hi).1 (by rw [List.getElem?_eq_getElem hi, hin])
      have hall := h i (by omega)
      rw [List.getElem?_eq_getElem (by omega), Option.some.injEq, hall] at hget
      simpa [eq_comm] using hget
    · have hget := (setSlot_getElem? ms n (some (sh, sg)) slots hfit i hi).2 hne
      rw [← hget, List.getElem?_eq_getElem (by omega), h i (by omega)]
  · rintro ⟨hn, hrest⟩ i hi
    have hi' : i < ms.length := by omega
    have hget := setSlot_getElem? ms n (some (sh, sg)) slots hfit i hi'
    rw [List.getElem?_eq_getElem hi] at hget
    by_cases hm : ms[i]? = some n
    · obtain ⟨rfl, rfl⟩ := hn (List.mem_of_getElem? hm)
      exact Option.some.inj (hget.1 hm)
    · exact Option.some.inj ((hget.2 hm).trans (hrest i hi' hm))

end Sys2Proof.Machine

open Sys2Proof Sys2Proof.Machine

/-- Settles O34. -/
theorem readyIsRecorded : Obligations.ReadyIsRecorded := by
  intro n sh sg s hs hfit hn h1 h4 hno
  obtain ⟨v, hv, hv'⟩ := hs.delivers n (some (.ready s.flyer sh sg s.members))
  obtain ⟨w, x, hex, hp, hf, hcue, hx, hown⟩ := ready_recorded hv hv' hn h1 h4
  have hst : startCondition w = false := by
    rw [Bool.eq_false_iff]
    intro h
    obtain ⟨c, hc, hph, hslots, hentry⟩ := (startCondition_iff w).mp h
    rw [hcue] at hc hslots
    rw [show w.reg = s.reg from hf.block .reg (by decide)] at hentry
    obtain ⟨hmine, hrest⟩ := (slots_ready hfit).mp hslots
    rcases hno c hc hph with h | h | h | ⟨i, hi, hne, h⟩
    · rw [h] at hentry
      exact absurd hentry (by simp)
    · exact h (hmine hn).1.symm
    · exact h (hmine hn).2.symm
    · exact h (hrest i hi hne)
  rw [testStart_false hst] at hex
  refine ⟨_, hex, slotSet_of hfit ?_, ?_, ?_, fun c h1 h2 h3 h4 h5 => ?_, fun h => ?_, hf.finish hp.quiet⟩
  · rw [finish_slots hp.quiet, hcue]
    rfl
  · rw [finish_current hp.quiet, hcue]
    rfl
  · rw [finish_queue hp.quiet, hcue]
    rfl
  · rw [finish_readyWait hp.quiet, hcue]
    exact hown c h1 h2 h3 h4 h5
  · rw [finish_readyWait hp.quiet, hcue]
    exact hx h

/-- Settles O35. -/
theorem readyStartsTheRun : Obligations.ReadyStartsTheRun := by
  intro n c s hs hfit hn h4 hc hph hax hrest hentry
  obtain ⟨v, hv, hv'⟩ := hs.receives.delivers n (some (.ready s.flyer c.showNo c.segment s.members))
  obtain ⟨w, x, hex, hp, hf, hcue, -, -⟩ := ready_recorded hv hv' hn (List.length_pos_of_mem hn) h4
  have hwc : w.cue.current = some c := by
    rw [hcue]
    exact hc
  have hst : startCondition w = true := by
    refine (startCondition_iff w).mpr ⟨c, hwc, hph, ?_, ?_⟩
    · rw [hcue]
      exact (slots_ready hfit).mpr ⟨fun _ => ⟨rfl, rfl⟩, hrest⟩
    · rw [show w.reg = s.reg from hf.block .reg (by decide)]
      exact hentry
  rw [testStart_true hwc hst] at hex
  refine ⟨_, hex, runStarted_of c hs hp (hf.over (by decide)) hax ?_ ?_ ?_, (hf.chain (frame_startRun c w) (by decide) (by decide)).finish (hp.startRun c).quiet⟩
  · rw [hcue]
    simp [CueUnit.slotted, setSlot, hfit]
  · rw [hcue]
    rfl
  · rw [hcue]
    rfl

/-- Settles O36. -/
theorem mismatchedReadyDropsTheCue : Obligations.MismatchedReadyDropsTheCue := by
  intro n f sh sg ms s hs h1 h4 hcon hno hst
  obtain ⟨v, hv, hv'⟩ := hs.receives.delivers n (some (.ready f sh sg ms))
  have hex := exec_ready hv h1 h4
  have hflyer : v.flyer = s.flyer := hv'.frame.flyer
  have hmem : v.members = s.members := hv'.frame.members
  rw [takeReady_mismatched (by rw [hflyer, hmem]; exact hcon) (by rw [hflyer, hmem]; exact hno), mismatchReady] at hex
  have hp := hv'.posting.notice .setMismatch n.val (noticeSegment sg) sh (by simp)
  have hf : FrameBut [.roster, .line] s (v.notice .setMismatch n.val (noticeSegment sg) sh) :=
    hv'.frame.chain (frame_notice _ _ _ _ _) (by decide) (by decide)
  have hcue : (v.notice .setMismatch n.val (noticeSegment sg) sh).cue = s.cue := hv'.cue
  rw [hflyer, List.nil_append] at hp
  generalize v.notice .setMismatch n.val (noticeSegment sg) sh = w at *
  have hpost : Post.notice ⟨12, n.val, s.flyer, noticed sg, sh⟩
      = Post.notice ⟨NoticeCode.setMismatch.code, n.val, s.flyer, noticeSegment sg, sh⟩ := rfl
  rcases dropMatching_cases sh sg .setMismatch w with ⟨c, hc, hph, h1, h2, he⟩ | ⟨hnot, he⟩
  · have hnone : (dropArmed c .setMismatch true w).cue.current = none := by
      rw [dropArmed_cue]
      rfl
    rw [he, testStart_none hnone] at hex
    have hp' := hp.dropArmed_after c .setMismatch true (fun o ho => by
      rw [List.mem_singleton] at ho
      simp [postOfCue, ho]) (by simp)
    rw [hcue] at hc
    refine ⟨_, hex, ?_, ?_, fun d hd _ _ _ => ?_, fun d hd hdp => ?_,
      (hf.chain (frame_dropArmed c .setMismatch true w) (by decide) (by decide)).finish hp'.quiet⟩
    · rw [finish_slots hp'.quiet, dropArmed_cue, hcue]
      rfl
    · rw [hp'.finish.newPosts hs.2, hpost]
      simp
    · rw [hc] at hd
      cases hd
      rw [finish_current hp'.quiet, hnone, hp'.finish.newPosts hs.2]
      refine ⟨rfl, ?_⟩
      simp [dropPosts, h2, CutReason.code, hf.flyer]
    · rw [hc] at hd
      cases hd
      simp [hph, h1, h2] at hdp
  · have hst' : startCondition w = false := by
      rw [← hst]
      simp only [startCondition, hcue, show w.reg = s.reg from hf.block .reg (by decide)]
    rw [he, testStart_false hst'] at hex
    rw [hcue] at hnot
    refine ⟨_, hex, ?_, ?_, fun d hd h3 h4 h5 => ?_, fun d hd _ => ⟨?_, hf.finish hp.quiet⟩, (hf.over (by decide)).finish hp.quiet⟩
    · rw [finish_slots hp.quiet, hcue]
    · rw [hp.finish.newPosts hs.2, hpost]
      simp
    · exact absurd (hnot d hd) (by simp [h3, h4, h5])
    · rw [finish_current hp.quiet, hcue, hd]

end

section
/-! UNREADY and CUT: a member's slot is emptied, and an armed cue may be dropped. -/

namespace Sys2Proof.Machine

/-- The state once a member's slot is emptied. -/
theorem Hears.unslotted {n : Fin 48} {p : Option Post} {s v : State} (hv : Hears n p s v) (m : Nat) :
    ∃ w, v.putSlot m none = w ∧ Posting s w [] ∧ FrameBut [.cue, .roster, .line] s w
      ∧ w.cue = s.cue.slotted s.members m none ∧ w.line.state = s.line.state := by
  refine ⟨_, rfl, hv.posting, hv.frame.chain (frame_withCue _ _) (by decide) (by decide), ?_, hv.state⟩
  rw [putSlot_eq, State.withCue_cue, hv.cue, hv.frame.members]

/-- The drop of the armed cue after a member's slot is emptied. -/
theorem dropped_unslotted {s w : State} {m : Nat} {c : CurrentCue} {r : CutReason} (own : Bool) (hp : Posting s w [])
    (hf : FrameBut [.cue, .roster, .line] s w) (hcue : w.cue = s.cue.slotted s.members m none)
    (hl : w.line.state = s.line.state) (hfit : SlotsFit s) :
    ∃ ps, Posting s (dropArmed c r own w) ps ∧ ps = dropPosts c r own w
      ∧ slotSet s (finish (dropArmed c r own w)) m none
      ∧ (finish (dropArmed c r own w)).cue.queue = s.cue.queue
      ∧ (finish (dropArmed c r own w)).cue.current = none
      ∧ (s.line.state = .lineOff → releaseKept s (finish (dropArmed c r own w)) c)
      ∧ FrameBut [.cue, .axis, .roster, .line, .store] s (finish (dropArmed c r own w)) := by
  have hp' := hp.dropArmed c r own
  have hback : givesBack w c ↔ givesBack s c := by
    unfold givesBack
    rw [hf.isLead, hcue, show w.reg = s.reg from hf.block .reg (by decide)]
    rfl
  refine ⟨_, hp', rfl, slotSet_of hfit ?_, ?_, ?_, fun hoff => ?_,
    (hf.chain (frame_dropArmed c r own w) (by decide) (by decide)).finish hp'.quiet⟩
  · rw [finish_slots hp'.quiet, dropArmed_cue, hcue]
    rfl
  · rw [finish_queue hp'.quiet, dropArmed_cue, hcue]
    rfl
  · rw [finish_current hp'.quiet, dropArmed_cue]
    rfl
  · have howed : releaseOwed c w = if givesBack s c then some c.runKey else s.cue.owedRelease := by
      by_cases hg : givesBack s c
      · rw [if_pos hg]
        exact if_pos ⟨hback.mpr hg, hl.trans hoff⟩
      · rw [if_neg hg]
        refine (if_neg (fun h => hg (hback.mp h.1))).trans ?_
        rw [hcue]
        rfl
    unfold releaseKept
    rw [finish_owedRelease hp'.quiet, dropArmed_cue, howed]
    rfl

/-- A member's slot is emptied, and nothing else. -/
theorem unslotted_alone {s w : State} {m : Nat} (hp : Posting s w []) (hf : FrameBut [.cue, .roster, .line] s w)
    (hcue : w.cue = s.cue.slotted s.members m none) (hs : Receives s) (hfit : SlotsFit s) :
    slotSet s (finish w) m none ∧ (finish w).cue.queue = s.cue.queue ∧ (finish w).cue.current = s.cue.current
      ∧ newPosts s (finish w) = [] ∧ FrameBut [.cue, .roster, .line] s (finish w) := by
  refine ⟨slotSet_of hfit ?_, ?_, ?_, hp.finish.newPosts_nil hs, hf.finish hp.quiet⟩
  · rw [finish_slots hp.quiet, hcue]
    rfl
  · rw [finish_queue hp.quiet, hcue]
    rfl
  · rw [finish_current hp.quiet, hcue]
    rfl

theorem cut_mem_dropPosts (c : CurrentCue) (r : CutReason) (s : State) :
    Post.cut s.flyer c.segment c.reps 0 r.code ∈ dropPosts c r true s := by simp [dropPosts]

theorem cut_notMem_dropPosts (c : CurrentCue) (r : CutReason) (s : State) (f g n i k : Nat) :
    Post.cut f g n i k ∉ dropPosts c r false s := by
  have hposts : dropPosts c r false s = if givesBack s c then [.release c.runKey] else [] := rfl
  rw [hposts]
  split <;> simp

end Sys2Proof.Machine

open Sys2Proof Sys2Proof.Machine

/-- Settles O37. -/
theorem unreadyDropsTheCue : Obligations.UnreadyDropsTheCue := by
  intro n f sh sg s hs hfit
  obtain ⟨v, hv, hv'⟩ := hs.delivers n (some (.unready f sh sg))
  have hex : exec (.unready n f sh sg) s = .next (finish (takeUnready n.val sh sg v)) :=
    congrArg Host.Outcome.next (hv _)
  have hmem : v.members = s.members := hv'.frame.members
  refine ⟨fun hn => ?_, fun hn => ?_⟩
  · obtain ⟨w, hw, hp, hf, hcue, hl⟩ := hv'.unslotted n.val
    have hact : takeUnready n.val sh sg v = if sg ≤ 47 then dropMatching sh sg .unready w else w := by
      unfold takeUnready
      rw [if_pos ((isMember_iff v n.val).mpr (by rw [hmem]; exact hn)), hw]
    rw [hact] at hex
    have hcur : w.cue.current = s.cue.current := by
      rw [hcue]
      rfl
    obtain ⟨k1, k2, k3, k4, k5⟩ := unslotted_alone hp hf hcue hs hfit
    by_cases hsg : sg ≤ 47
    · rw [if_pos hsg] at hex
      rcases dropMatching_cases sh sg .unready w with ⟨c, hc, hph, h1, h2, he⟩ | ⟨hnot, he⟩
      · rw [hcur] at hc
        rw [he] at hex
        obtain ⟨ps, hp', hps, d1, d2, d3, d4, d5⟩ := dropped_unslotted (c := c) (r := .unready) true hp hf hcue hl hfit
        refine ⟨_, hex, d1, d2, fun d _ hd _ _ _ => ?_, fun hno => ?_, d5⟩
        · rw [hc] at hd
          cases hd
          refine ⟨d3, hp'.finish.also ?_, d4⟩
          have := cut_mem_dropPosts c .unready w
          rwa [hf.flyer, h2, ← hps] at this
        · exact absurd (hno c hc) (by simp [hph, h1, h2])
      · rw [he] at hex
        rw [hcur] at hnot
        exact ⟨_, hex, k1, k2, fun d _ hd h1 h2 h3 => absurd (hnot d hd) (by simp [h1, h2, h3]),
          fun _ => ⟨k3, k4, k5⟩, k5.over (by decide)⟩
    · rw [if_neg hsg] at hex
      exact ⟨_, hex, k1, k2, fun d h => absurd h hsg, fun _ => ⟨k3, k4, k5⟩, k5.over (by decide)⟩
  · have hact : takeUnready n.val sh sg v = v :=
      if_neg (fun h => hn (by rw [← hmem]; exact (isMember_iff v n.val).mp h))
    rw [hact] at hex
    exact ⟨_, hex, hv'.frame.finish hv'.posting.quiet⟩

/-- Settles O39. -/
theorem cutEmptiesSlot : Obligations.CutEmptiesSlot := by
  intro n f sg rem st reason s hs hfit
  obtain ⟨v, hv, hv'⟩ := hs.delivers n (some (.cut f sg rem st reason))
  have hex : exec (.cut n f sg rem st reason) s = .next (finish (takeCut n.val sg reason v)) :=
    congrArg Host.Outcome.next (hv _)
  have hmem : v.members = s.members := hv'.frame.members
  refine ⟨fun hn => ?_, fun hn => ?_⟩
  · obtain ⟨w, hw, hp, hf, hcue, hl⟩ := hv'.unslotted n.val
    have hact : takeCut n.val sg reason v
        = if s.members.head? = some n.val ∧ reason = 4 then spaceCut n.val sg w else w := by
      unfold takeCut
      rw [if_pos ((isMember_iff v n.val).mpr (by rw [hmem]; exact hn)), hw]
      simp [State.leadIs, hmem, CutReason.code]
    rw [hact] at hex
    have hcur : w.cue.current = s.cue.current := by
      rw [hcue]
      rfl
    obtain ⟨k1, k2, k3, k4, k5⟩ := unslotted_alone hp hf hcue hs hfit
    by_cases hdrop : (s.members.head? = some n.val ∧ reason = 4)
        ∧ ∃ c, s.cue.current = some c ∧ c.phase = .armed ∧ c.segment = sg
    · obtain ⟨hlead, c, hc, hph, hseg⟩ := hdrop
      have hcut : spaceCut n.val sg w = dropArmed c .space (n.val != w.strap) w := by
        have hwc : w.cue.current = some c := hcur.trans hc
        simp [spaceCut, hwc, hseg, dropCue_armed .space _ hwc hph]
      rw [if_pos hlead, hcut] at hex
      obtain ⟨ps, hp', hps, d1, d2, d3, d4, d5⟩ :=
        dropped_unslotted (c := c) (r := .space) (n.val != w.strap) hp hf hcue hl hfit
      refine ⟨_, hex, d1, d2, fun d _ _ hd _ _ => ?_, fun hno => ?_, d5⟩
      · rw [hc] at hd
        cases hd
        refine ⟨d3, fun hne => hp'.finish.also ?_, fun heq => ?_, fun hoff => ⟨hp'.finish.posted.2 hoff, d4 hoff⟩⟩
        · have hown : (n.val != w.strap) = true := by simpa [hf.strap] using hne
          have := cut_mem_dropPosts c .space w
          rwa [← hown, hf.flyer, hseg, ← hps] at this
        · have hown : (n.val != w.strap) = false := by simpa [hf.strap] using heq
          have hnot := cut_notMem_dropPosts c .space w s.flyer sg c.reps 0 4
          rw [← hown, ← hps] at hnot
          rcases hs.2 with hon | hoff
          · rw [hp'.finish.newPosts hon]
            exact hnot
          · rw [hp'.finish.posted.2 hoff]
            exact List.not_mem_nil
      · rcases hno with h | h | h
        · exact absurd hlead.1 h
        · exact absurd hlead.2 h
        · exact absurd (h c hc) (by simp [hph, hseg])
    · have hstill : (if s.members.head? = some n.val ∧ reason = 4 then spaceCut n.val sg w else w) = w := by
        split
        · rename_i hlead
          unfold spaceCut
          split
          · rename_i c hc
            rw [hcur] at hc
            split
            · rename_i hseg
              refine dropCue_of_not_armed .space _ fun d hd => ?_
              rw [hcur, hc] at hd
              cases hd
              cases hph : c.phase with
              | running => rfl
              | armed => exact absurd ⟨hlead, c, hc, hph, hseg⟩ hdrop
            · rfl
          · rfl
        · rfl
      rw [hstill] at hex
      exact ⟨_, hex, k1, k2, fun c h1 h2 h3 h4 h5 => absurd ⟨⟨h1, h2⟩, c, h3, h4, h5⟩ hdrop,
        fun _ => ⟨k3, k4, k5⟩, k5.over (by decide)⟩
  · have hact : takeCut n.val sg reason v = v :=
      if_neg (fun h => hn (by rw [← hmem]; exact (isMember_iff v n.val).mp h))
    rw [hact] at hex
    exact ⟨_, hex, hv'.frame.finish hv'.posting.quiet⟩

end

section
/-! Taking the head of the cue queue. -/

namespace Sys2Proof.Machine

/-! ### The tests of a taken head (03 R52) -/

theorem repsAllowed_iff (m : Option Mode) (n : Nat) (hm : m ≠ none) :
    repsAllowed m n = true ↔ (m = some .swing ∧ 1 ≤ n ∧ n ≤ 255) ∨ (m ≠ some .swing ∧ n = 1) := by
  cases m with
  | none => exact absurd rfl hm
  | some m => cases m <;> simp [repsAllowed]

theorem takeRefusal_code (s : State) (h : CueEntry) :
    takingRefusal s h = (takeRefusal h s).map NoticeCode.code := by
  unfold takingRefusal takeRefusal
  simp only
  by_cases h1 : s.store.working.valid = false
  · simp [h1, NoticeCode.code]
  by_cases h2 : h.showNo ≠ bankShow s.store.working.words
  · simp [h1, h2, NoticeCode.code]
  by_cases h3 : 47 < h.segment ∨ (segmentOf s.store.working.words h.segment).mode = none
  · simp only [h1, h2, h3, if_true, if_false]
    simp [NoticeCode.code]
  have hreps := repsAllowed_iff (segmentOf s.store.working.words h.segment).mode
    (resolvedReps h (segmentOf s.store.working.words h.segment)) (fun he => h3 (.inr he))
  unfold resolvedReps at *
  simp only [h1, h2, h3, if_false, ← hreps, Bool.not_eq_true, Bool.not_eq_true']
  split_ifs <;> simp_all [NoticeCode.code]

/-! ### The head armed (03 R53) -/

/-- The cue unit of a station that has armed its head as the cue `c`. -/
def CueUnit.armed (u : CueUnit) (c : CurrentCue) (ms : List Nat) (m : Nat) : CueUnit :=
  { u with queue := u.queue.tail, chainDelay := none, current := some c, slots := setSlot ms m none u.slots }

/-- The state of an armed station before its posts. -/
def armedState (c : CurrentCue) (s : State) : State :=
  ((s.withCue (s.cue.armed c s.members s.strap)).withAxis
    { s.axis with origin := some s.axis.state, state := .armed }).withLine (lineEntering s.axis.state .armed s.line)

theorem arm_eq (h : CueEntry) (s : State) : arm h s = armPosts (armedCue h s) (armedState (armedCue h s) s) := by
  unfold arm armedState
  simp only [enterAxis_eq, putSlot_eq]
  rfl

theorem armPosts_eq (c : CurrentCue) (s : State) :
    armPosts c s = if s.isLead then (s.post (.ready s.flyer c.showNo c.segment s.members)).postFor .forCue
        (.claim c.runKey c.box)
      else s.post (.ready s.flyer c.showNo c.segment s.members) := rfl

theorem frame_armPosts (c : CurrentCue) (s : State) : FrameBut [.line] s (armPosts c s) := by
  rw [armPosts_eq]
  exact .ite ((frame_post s _).chain (frame_postFor _ _ _) (by decide) (by decide)) (frame_post s _)

theorem frame_armedState (c : CurrentCue) (s : State) : FrameBut [.cue, .axis, .line] s (armedState c s) :=
  ((frame_withCue s _).chain (ds := [.cue, .axis]) (frame_withAxis _ _) (by decide) (by decide)).chain (frame_withLine _ _) (by decide) (by decide)

theorem Posting.armPosts {s t : State} (h : Posting s t []) (c : CurrentCue) :
    Posting s (armPosts c t) (.ready t.flyer c.showNo c.segment t.members
      :: if t.isLead = true then [.claim c.runKey c.box] else []) := by
  rw [armPosts_eq]
  have h1 := h.post (.ready t.flyer c.showNo c.segment t.members) (by simp)
  split
  · exact h1.postFor .forCue _ (by simp)
  · exact h1

theorem armPosts_cue (c : CurrentCue) (s : State) : (armPosts c s).cue = s.cue := by
  rw [armPosts_eq]
  split <;> rfl

theorem armPosts_slot (c : CurrentCue) (s : State) : (armPosts c s).line.slot = s.line.slot := by
  rw [armPosts_eq]
  split <;> simp

theorem headEligible_of {s : State} {h : CueEntry} {q : List CueEntry} (hq : s.cue.queue = h :: q) (he : eligible s h) :
    headEligible s = true := by
  obtain ⟨h1, h2, h3, h4, h5, h6, h7⟩ := he
  simp [headEligible, hq, h1, h2, h3, h4, h5, h6, h7]

/-- What taking an eligible head does. -/
theorem takingDone_of {h : CueEntry} {s : State} (hs : CalmOn s) (hfit : SlotsFit s) (he : eligible s h) :
    takingDone s (finish (takeHead h s)) h := by
  have h0 := Posting.refl hs.1
  unfold takingDone
  simp only
  rw [takeRefusal_code]
  unfold takeHead
  cases hr : takeRefusal h s with
  | some code =>
    have hp := (h0.withCue { s.cue with queue := s.cue.queue.tail, chainDelay := none }).notice code h.caller
      (noticeSegment h.segment) h.showNo (by simp)
    have hf : FrameBut [.cue, .line] s ((popHead s).notice code h.caller (noticeSegment h.segment) h.showNo) :=
      (frame_withCue s _).chain (frame_notice _ _ _ _ _) (by decide) (by decide)
    refine ⟨finish_queue hp.quiet, finish_current hp.quiet, hp.finish.newPosts hs.2, hf.finish hp.quiet⟩
  | none =>
    simp only [Option.map_none]
    rw [arm_eq]
    have hrest : s.axis.state ≠ .armed := by
      intro hx
      have := he.1
      rw [hx] at this
      exact absurd this (by decide)
    have hp0 : Posting s (armedState (armedCue h s) s) [] := h0.entering s.axis.state .armed
    have hp := hp0.armPosts (armedCue h s)
    have hf0 := frame_armedState (armedCue h s) s
    have hf := hf0.chain (ds := [.cue, .axis, .line]) (frame_armPosts (armedCue h s) (armedState (armedCue h s) s)) (by decide) (by decide)
    have hcue : (armPosts (armedCue h s) (armedState (armedCue h s) s)).cue
        = s.cue.armed (armedCue h s) s.members s.strap := armPosts_cue _ _
    have hax : (armPosts (armedCue h s) (armedState (armedCue h s) s)).axis
        = { s.axis with origin := some s.axis.state, state := .armed } :=
      (frame_armPosts (armedCue h s) (armedState (armedCue h s) s)).block .axis (by decide)
    have hslot : (armPosts (armedCue h s) (armedState (armedCue h s) s)).line.slot.isSome = true := by
      rw [armPosts_slot]
      exact lineEntering_slot hrest hs.2
    have hposts := hp.finish.newPosts hs.2
    rw [hf0.flyer, hf0.members, hf0.isLead] at hposts
    generalize armPosts (armedCue h s) (armedState (armedCue h s) s) = w at *
    have hq := hp.quiet
    refine ⟨?_, ?_, ?_, ?_, ?_, hposts, slotSet_of hfit ?_, ?_, hf.finish hq⟩
    · rw [finish_queue hq, hcue]
      rfl
    · rw [finish_current hq, hcue]
      rfl
    · rw [finish_axis _ hq, hax]
    · rw [finish_axis _ hq, hax]
    · rw [finish_axis _ hq, hax]
    · rw [finish_slots hq, hcue]
      rfl
    · rw [finish_line _ hq]
      exact hslot

end Sys2Proof.Machine

open Sys2Proof Sys2Proof.Machine

/-- Settles O40. -/
theorem headIsTaken : Obligations.HeadIsTaken := by
  intro h q s hs hfit hq he
  have helig := headEligible_of hq he
  refine ⟨fun ht => ⟨_, ?_, takingDone_of hs hfit he⟩, fun x hx => ⟨_, ?_, takingDone_of hs hfit he⟩⟩
  · refine (congrArg Host.Outcome.next (event_calm takeUntriggered hs.1)).trans ?_
    simp [takeUntriggered, hq, helig, ht]
  · refine (congrArg Host.Outcome.next (event_calm chainEnds hs.1)).trans ?_
    simp [chainEnds, hq, helig, hx]

end

section
/-! The waits: the presence timer, the ready wait and the space wait; and a full outgoing queue, whose discards drop the cue. -/

namespace Sys2Proof.Machine

theorem exec_readyWait {s : State} (h : s.power = .running) {x : Nat} {c : CurrentCue} (hx : s.cue.readyWait = some x)
    (hc : s.cue.current = some c) (hp : c.phase = .armed) :
    exec .readyWaitExpiry s
      = .next (finish ((s.withCue { s.cue with readyWait := none }).post (.unready s.flyer c.showNo c.segment))) := by
  have hex : exec .readyWaitExpiry s = .next (event readyWaitEnds s) := rfl
  rw [hex, event, h]
  simp [readyWaitEnds, hx, hc, hp]

theorem exec_spaceWait {s : State} (h : s.power = .running) {x : Nat} {c : CurrentCue} (hx : s.cue.spaceWait = some x)
    (hc : s.cue.current = some c) (hp : c.phase = .armed) :
    exec .spaceWaitExpiry s = .next (finish ((s.withCue { s.cue with spaceWait := none }).postFor .spaceWait
      (.cut s.flyer c.segment c.reps 0 4))) := by
  have hex : exec .spaceWaitExpiry s = .next (event spaceWaitEnds s) := rfl
  rw [hex, event, h]
  simp [spaceWaitEnds, hx, hc, hp, CutReason.code]

/-! ### A full queue (07 R148) -/

theorem highestClass_le {ps : List OutPost} {n : Nat} (h : ∀ p ∈ ps, Post.cls p.post ≤ n) : highestClass ps ≤ n := by
  have hfold : ∀ (l : List OutPost) (c : Nat), (∀ p ∈ l, Post.cls p.post ≤ n) → c ≤ n →
      l.foldl (fun c p => max c (Post.cls p.post)) c ≤ n := by
    intro l
    induction l with
    | nil => exact fun c _ hc => hc
    | cons p l ih =>
      intro c hl hc
      exact ih _ (fun q hq => hl q (List.mem_cons_of_mem p hq)) (Nat.max_le.mpr ⟨hc, hl p (by simp)⟩)
  exact hfold ps 0 h (Nat.zero_le n)

/-- In a full queue without a post of a higher class number the new post is the one discarded. -/
theorem Line.offer_full {l : Line} {p : Post} {u : PostUse} (hs : l.state = .on) (hf : l.queue.length = 8)
    (hc : ∀ o ∈ l.queue, Post.cls o.post ≤ Post.cls p) :
    Line.offer l p u = { l with nextAge := l.nextAge + 1, reports := l.reports ++ [⟨p, u, l.nextAge⟩] } := by
  have hv : Line.victim l (Post.cls p) = none := by
    have hle := highestClass_le (ps := l.queue.filter (Line.displaceable l)) (n := Post.cls p)
      (fun o ho => hc o (List.mem_of_mem_filter ho))
    simp only [Line.victim]
    exact if_neg (by omega)
  have hroom : ¬l.queue.length < Config.maxPosts := by
    rw [hf]
    decide
  simp [Line.offer, hs, hroom, hv]

/-- What a discard report may do. -/
theorem handleReport_cases (o : OutPost) (s : State) :
    handleReport o s = s ∨ (s.sync.phase = .posting ∧ handleReport o s = failAttempt s)
      ∨ handleReport o s = endAnswer s
      ∨ (∃ sh sg r, handleReport o s = dropMatching sh sg r s) ∨ handleReport o s = dropCue .space true s
      ∨ handleReport o s = owe o s := by
  unfold handleReport
  cases o.post with
  | sync a b =>
    by_cases h : s.sync.phase = .posting
    · exact .inr (.inl ⟨h, if_pos h⟩)
    · exact .inl (if_neg h)
  | tableStart a b c => exact (ite_eq_or_eq _ _ _).elim (fun h => .inr (.inr (.inl h))) .inl
  | tableEntry a b c d => exact (ite_eq_or_eq _ _ _).elim (fun h => .inr (.inr (.inl h))) .inl
  | tableEnd a b => exact (ite_eq_or_eq _ _ _).elim (fun h => .inr (.inr (.inl h))) .inl
  | ready a b c d => exact .inr (.inr (.inr (.inl ⟨b, c, .line, rfl⟩)))
  | unready a b c => exact .inr (.inr (.inr (.inl ⟨b, c, .unready, rfl⟩)))
  | cut a b c d e =>
    exact (ite_eq_or_eq _ _ _).elim (fun h => .inr (.inr (.inr (.inr (.inl h)))))
      (fun h => .inr (.inr (.inr (.inr (.inr h)))))
  | claim a b => exact .inr (.inr (.inr (.inr (.inr rfl))))
  | release a => exact .inr (.inr (.inr (.inr (.inr rfl))))
  | done a b c => exact .inr (.inr (.inr (.inr (.inr rfl))))
  | _ => exact .inl rfl

/-! ### The discards acted on without a cue (03 R64, R70; 02 R30, R34) -/

/-- No cue is current, the axis stands in `a`, and no queued post is `p`. -/
def Landed (a : AxisState) (p : Post) (s : State) : Prop :=
  s.cue.current = none ∧ s.axis.state = a ∧ ∀ o ∈ s.line.queue, o.post ≠ p

section
variable {a : AxisState} {f g h : Nat} {s : State}

theorem Landed.post (hl : Landed a (.unready f g h) s) {p : Post} (hp : p ≠ .unready f g h) :
    Landed a (.unready f g h) (s.post p) := by
  refine ⟨hl.1, hl.2.1, fun o ho => ?_⟩
  rcases Line.mem_offer ho with ho | ho
  · exact hl.2.2 o ho
  · rw [ho]
    exact hp

theorem Landed.withSync (hl : Landed a (.unready f g h) s) (u : SyncUnit) : Landed a (.unready f g h) (s.withSync u) := hl

theorem Landed.choice (hl : Landed a (.unready f g h) s) : Landed a (.unready f g h) (choice s) := by
  rcases choice_cases s with ⟨-, r, -, hc⟩ | ⟨ho, -, -, -, hc⟩ | hc
  · rw [hc]
    exact (hl.withSync _).post (by simp)
  · rw [hc, startRigAlone_of (by simp [((choiceOpen_iff s).mp ho).1])]
    exact hl
  · rw [hc]
    exact hl

theorem Landed.failAttempt (hl : Landed a (.unready f g h) s) : Landed a (.unready f g h) (failAttempt s) := by
  by_cases hf : s.sync.failed + 1 < 3
  · rw [failAttempt_again hf]
    exact (hl.withSync _).choice
  · rw [failAttempt_last hf]
    exact (hl.withSync _).post (by simp)

theorem Landed.endAnswer (hl : Landed a (.unready f g h) s) : Landed a (.unready f g h) (endAnswer s) := by
  rw [endAnswer_eq]
  have h1 := hl.withSync { s.sync with waitList := s.sync.waitList.drop 1, answer := none }
  generalize s.withSync { s.sync with waitList := s.sync.waitList.drop 1, answer := none } = t at h1
  cases hw : t.sync.waitList with
  | nil =>
    rw [serveNext_none hw]
    exact h1
  | cons q qs =>
    rw [serveNext_cons hw]
    exact (h1.withSync _).post (by simp)

theorem Landed.owe (hl : Landed a (.unready f g h) s) (o : OutPost) : Landed a (.unready f g h) (owe o s) := hl

theorem Landed.dropCue (hl : Landed a (.unready f g h) s) (r : CutReason) (w : Bool) :
    Landed a (.unready f g h) (dropCue r w s) := by
  rw [dropCue_of_not_armed r w (fun c hc => absurd (hl.1.symm.trans hc) (by simp))]
  exact hl

theorem Landed.dropMatching (hl : Landed a (.unready f g h) s) (sh sg : Nat) (r : CutReason) :
    Landed a (.unready f g h) (dropMatching sh sg r s) := by
  rw [dropMatching_of_not sh sg r (fun c hc => absurd (hl.1.symm.trans hc) (by simp))]
  exact hl

theorem Landed.handleReport (hl : Landed a (.unready f g h) s) (o : OutPost) :
    Landed a (.unready f g h) (handleReport o s) := by
  rcases handleReport_cases o s with he | ⟨-, he⟩ | he | ⟨sh, sg, r, he⟩ | he | he
  all_goals rw [he]
  · exact hl
  · exact hl.failAttempt
  · exact hl.endAnswer
  · exact hl.dropMatching sh sg r
  · exact hl.dropCue .space true
  · exact hl.owe o

theorem Landed.trackReclaim (hl : Landed a (.unready f g h) s) : Landed a (.unready f g h) (trackReclaim s) := by
  obtain ⟨v, hv⟩ := trackReclaim_eq s
  rw [hv]
  exact hl

theorem Landed.drainReports (n : Nat) (hl : Landed a (.unready f g h) s) :
    Landed a (.unready f g h) (drainReports n s) := by
  induction n generalizing s with
  | zero => exact hl
  | succ n ih =>
    cases hr : s.line.reports with
    | nil =>
      rw [drainReports_nil _ _ hr]
      exact hl
    | cons o os =>
      rw [drainReports_cons n s o os hr]
      have h1 : Landed a (.unready f g h) (s.withLine { s.line with reports := os }) := hl
      exact ih (h1.trackReclaim.handleReport o)

end

/-- The end of an event whose first discard drops the cue. -/
theorem finish_landed {a : AxisState} {f g h : Nat} {s : State} {o : OutPost} (hr : s.line.reports = [o])
    (hl : Landed a (.unready f g h) (takeReport o [] s)) : Landed a (.unready f g h) (finish s) := by
  have hd : drainReports (reportFuel s.line) s = drainReports 64 (takeReport o [] s) := by
    rw [reportFuel, hr]
    exact drainReports_cons 64 s o [] hr
  have h1 : Landed a (.unready f g h) (drainReports (reportFuel s.line) s) := by
    rw [hd]
    exact hl.drainReports 64
  have h2 : Landed a (.unready f g h) (trackChain (drainReports (reportFuel s.line) s)) := by
    obtain ⟨v, hv⟩ := trackChain_eq (drainReports (reportFuel s.line) s)
    rw [hv]
    exact h1
  exact h2.trackReclaim

/-- The drop of an armed cue: no cue is current, and no UNREADY of the cue is queued. -/
theorem landed_dropArmed (c : CurrentCue) (r : CutReason) (w : Bool) (s : State) :
    Landed (originState s.axis) (.unready s.flyer c.showNo c.segment) (dropArmed c r w s) := by
  refine ⟨?_, ?_, fun q hq hp => ?_⟩
  · rw [dropArmed_cue]
    rfl
  · rw [dropArmed_axis]
  · rw [dropArmed_eq, State.withCue_line, State.withLine_line] at hq
    rcases lineDropping_queue hq with h | h | h
    · simp [postOfCue, hp] at h
    · simp [hp] at h
    · simp [hp] at h

/-- The state in which the sole discard of an event is acted on. -/
theorem reported_state {s u : State} {o : OutPost} {c : CurrentCue} (hf : FrameBut [.cue, .line] s u)
    (hc : u.cue.current = some c) :
    ∃ w, takeReport o [] u = handleReport o w ∧ w.cue.current = some c ∧ w.axis = s.axis ∧ w.flyer = s.flyer := by
  obtain ⟨v, hv⟩ := trackReclaim_eq (u.withLine { u.line with reports := [] })
  refine ⟨trackReclaim (u.withLine { u.line with reports := [] }), rfl, ?_, ?_, ?_⟩
  · rw [hv]
    exact hc
  · rw [hv]
    exact hf.block .axis (by decide)
  · rw [hv]
    exact hf.flyer

end Sys2Proof.Machine

open Sys2Proof Sys2Proof.Machine

/-- Settles O41. -/
theorem waitsExpire : Obligations.WaitsExpire := by
  refine ⟨fun s hs => ⟨fun x hx => ?_, fun x c hx hc hp => ?_, fun x c hx hc hp => ?_⟩,
    fun c o s hpow hrep hon hfull hcls hc hp hax ho hne => ⟨fun x hx => ?_, fun x hx => ?_⟩⟩
  · have h0 := (Posting.refl hs.1).withRoster { s.roster with presenceTimer := none }
    have hp := h0.askPresence
    have hact : presenceDue s = (s.withRoster { s.roster with presenceTimer := none }).askPresence :=
      if_pos (by rw [hx]; rfl)
    refine ⟨_, (congrArg Host.Outcome.next (event_calm presenceDue hs.1)).trans (by rw [hact]), ?_, ?_, ?_,
      ((frame_withRoster s _).chain (frame_askPresence _) (by decide) (by decide)).finish hp.quiet⟩
    · rw [finish_line _ hp.quiet]
      exact Line.requestPresence_slot hs.2
    · rw [finish_roster _ hp.quiet]
      rfl
    · rw [finish_line _ hp.quiet, State.askPresence_line]
      simp
  · have hpost := ((Posting.refl hs.1).withCue { s.cue with readyWait := none }).post
      (.unready s.flyer c.showNo c.segment) (by simp)
    exact ⟨_, exec_readyWait hs.1.1 hx hc hp, finish_cue _ hpost.quiet, hpost.finish.newPosts hs.2,
      ((frame_withCue s _).chain (frame_post _ _) (by decide) (by decide)).finish hpost.quiet⟩
  · have hpost := ((Posting.refl hs.1).withCue { s.cue with spaceWait := none }).postFor .spaceWait
      (.cut s.flyer c.segment c.reps 0 4) (by simp)
    exact ⟨_, exec_spaceWait hs.1.1 hx hc hp, finish_cue _ hpost.quiet, hpost.finish.newPosts hs.2,
      ((frame_withCue s _).chain (frame_postFor _ _ _) (by decide) (by decide)).finish hpost.quiet⟩
  · have hfr : FrameBut [.cue, .line] s
        ((s.withCue { s.cue with readyWait := none }).post (.unready s.flyer c.showNo c.segment)) :=
      (frame_withCue s _).chain (frame_post _ _) (by decide) (by decide)
    obtain ⟨w, hw, hwc, hwa, hwf⟩ := reported_state (o := ⟨.unready s.flyer c.showNo c.segment, .plain, s.line.nextAge⟩)
      hfr hc
    have hdrop := landed_dropArmed c .unready true w
    rw [hwa, originState_armed hax, ho, Option.getD_some, hwf, ← dropMatching_armed .unready hwc hp] at hdrop
    have hrep' : ((s.withCue { s.cue with readyWait := none }).post
        (.unready s.flyer c.showNo c.segment)).line.reports
          = [⟨.unready s.flyer c.showNo c.segment, .plain, s.line.nextAge⟩] := by
      rw [State.post_line, State.withCue_line, Line.offer_full (p := .unready s.flyer c.showNo c.segment) hon hfull hcls, hrep]
      rfl
    obtain ⟨h1, h2, h3⟩ := finish_landed hrep' (by rw [hw]; exact hdrop)
    exact ⟨_, exec_readyWait hpow hx hc hp, h1, h2, h3⟩
  · have hfr : FrameBut [.cue, .line] s
        ((s.withCue { s.cue with spaceWait := none }).postFor .spaceWait (.cut s.flyer c.segment c.reps 0 4)) :=
      (frame_withCue s _).chain (frame_postFor _ _ _) (by decide) (by decide)
    obtain ⟨w, hw, hwc, hwa, hwf⟩ := reported_state (o := ⟨.cut s.flyer c.segment c.reps 0 4, .spaceWait, s.line.nextAge⟩)
      hfr hc
    have hdrop := landed_dropArmed c .space true w
    rw [hwa, originState_armed hax, ho, Option.getD_some, hwf, ← dropCue_armed .space true hwc hp] at hdrop
    have hrep' : ((s.withCue { s.cue with spaceWait := none }).postFor .spaceWait
        (.cut s.flyer c.segment c.reps 0 4)).line.reports
          = [⟨.cut s.flyer c.segment c.reps 0 4, .spaceWait, s.line.nextAge⟩] := by
      rw [State.postFor_line, State.withCue_line, Line.offer_full (p := .cut s.flyer c.segment c.reps 0 4) hon hfull hcls, hrep]
      rfl
    obtain ⟨h1, h2, -⟩ := finish_landed hrep' (by rw [hw]; exact hdrop)
    exact ⟨_, exec_spaceWait hpow hx hc hp, h1, h2⟩

end

section
/-! PRESENCE at its receivers: what the roster records, and what the register, the skew monitor and the show-stop watch do with it. -/

namespace Sys2Proof.Machine

/-! ### The roster but for its agree marks -/

/-- A roster entry without its agree mark. -/
def RosterEntry.bare (e : RosterEntry) : RosterEntry := { e with mark := .unmarked }

theorem Roster.entry_unmarkAll (r : Roster) (m : Nat) : r.unmarkAll.entry m = (r.entry m).bare := by
  unfold Roster.entry Roster.unmarkAll
  simp only [Vector.toList_map, List.getD_eq_getElem?_getD, List.getElem?_map]
  cases r.entries.toList[m]? <;> rfl

theorem RosterEntry.bare_eq {a b : RosterEntry} (h : a.bare = b.bare) :
    a.present = b.present ∧ a.lapse = b.lapse ∧ a.seen = b.seen ∧ a.axis = b.axis ∧ a.reg = b.reg ∧ a.flyer = b.flyer
      ∧ a.generation = b.generation ∧ a.runSegment = b.runSegment ∧ a.stepIndex = b.stepIndex
      ∧ a.showStop = b.showStop := by
  simp only [RosterEntry.bare, RosterEntry.mk.injEq] at h
  tauto

/-- The rosters agree but for agree marks. -/
structure SameRoster (a b : Roster) : Prop where
  entries : ∀ m, (b.entry m).bare = (a.entry m).bare
  marks : ∀ m, (b.entry m).mark = (a.entry m).mark ∨ (b.entry m).mark = .unmarked
  timer : b.presenceTimer = a.presenceTimer
  skew : b.skewReported = a.skewReported

theorem SameRoster.refl (a : Roster) : SameRoster a a := ⟨fun _ => rfl, fun _ => .inl rfl, rfl, rfl⟩

theorem SameRoster.unmarkAll (a : Roster) : SameRoster a a.unmarkAll :=
  ⟨fun m => by rw [Roster.entry_unmarkAll]; rfl, fun m => .inr (by rw [Roster.entry_unmarkAll]; rfl), rfl, rfl⟩

theorem SameRoster.trans {a b c : Roster} (h1 : SameRoster a b) (h2 : SameRoster b c) : SameRoster a c := by
  refine ⟨fun m => (h2.entries m).trans (h1.entries m), fun m => ?_, h2.timer.trans h1.timer, h2.skew.trans h1.skew⟩
  rcases h2.marks m with h | h
  · rw [h]
    exact h1.marks m
  · exact .inr h

theorem choice_roster (s : State) : SameRoster s.roster (choice s).roster := by
  rcases choice_cases s with ⟨-, r, -, hc⟩ | ⟨ho, -, -, -, hc⟩ | hc
  · rw [hc]
    exact .refl _
  · rw [hc, startRigAlone_of (by simp [((choiceOpen_iff s).mp ho).1])]
    exact .unmarkAll _
  · rw [hc]
    exact .refl _

theorem choice_winchSeen (s : State) : (choice s).sync.winchSeen = s.sync.winchSeen := by
  rcases choice_cases s with ⟨-, r, -, hc⟩ | ⟨ho, -, -, -, hc⟩ | hc
  · rw [hc]
    rfl
  · rw [hc, startRigAlone_of (by simp [((choiceOpen_iff s).mp ho).1])]
    rfl
  · rw [hc]

/-! ### The record of a PRESENCE (06 R122, 02 R41) -/

/-- The entry a PRESENCE leaves at its sender's place, from the entry the delivery found. -/
def recordedEntry (s : State) (n : Fin 48) (p : Presence) : RosterEntry :=
  let e := RosterEntry.report (s.roster.entry n.val) p
  if s.isPeer n.val then { e with mark := markAfter s p e.mark } else e

theorem recordPresence_eq (n : Fin 48) (p : Presence) (s : State) :
    recordPresence n p s = s.withRoster (Roster.put s.roster n (recordedEntry s n p)) := rfl

theorem recordedEntry_bare (s : State) (n : Fin 48) (p : Presence) :
    (recordedEntry s n p).bare = (RosterEntry.report (s.roster.entry n.val) p).bare := by
  unfold recordedEntry
  simp only
  split <;> rfl

theorem isPeer_iff (s : State) (n : Nat) : s.isPeer n = true ↔ n < 32 ∧ n ≠ s.strap := by simp [State.isPeer]

theorem recordedEntry_mark {s : State} {n : Fin 48} {p : Presence} (h1 : n.val < 32) (h2 : n.val ≠ s.strap) :
    (recordedEntry s n p).mark = markAfter s p (RosterEntry.report (s.roster.entry n.val) p).mark := by
  unfold recordedEntry
  simp only
  rw [if_pos ((isPeer_iff s n.val).mpr ⟨h1, h2⟩)]

theorem frame_seeWinch (n : Nat) (s : State) : FrameBut [.sync] s (seeWinch n s) :=
  .ite (frame_withSync s _) (.refl _ s)

theorem seeWinch_line (n : Nat) (s : State) : (seeWinch n s).line = s.line := (frame_seeWinch n s).block .line (by decide)

theorem frame_judgeDivergence (s : State) : FrameBut [.reg, .sync, .roster, .line] s (judgeDivergence s) := by
  unfold judgeDivergence
  exact .ite ((frame_setRegister _ s).chain (frame_notice _ _ _ _ _) (by decide) (by decide)) (.refl _ s)

theorem judgeDivergence_roster (s : State) : SameRoster s.roster (judgeDivergence s).roster := by
  unfold judgeDivergence
  split
  · rename_i h
    rw [State.notice_roster, setRegister_eq, State.withSync_roster, State.withRoster_roster, rosterSetting, if_pos
      ⟨by rw [h.1]; decide, .inr h.1⟩]
    exact .unmarkAll _
  · exact .refl _

/-- A post that is no HALT. -/
def isNoHalt : Post → Bool
  | .halt .. => false
  | _ => true

/-- What the register's part of a PRESENCE posts: no HALT, and one post at most. -/
theorem Posting.judgeDivergence {s t : State} (h : Posting s t []) :
    ∃ qs, qs.length ≤ 1 ∧ (∀ q ∈ qs, isNoHalt q = true) ∧ Posting s (judgeDivergence t) qs := by
  unfold Machine.judgeDivergence
  split
  · exact ⟨[_], by simp, by simp [isNoHalt], (h.setRegister .stale).notice _ _ _ _ (by simp)⟩
  · exact ⟨[], by simp, by simp, h⟩

theorem Posting.choice_noHalt {s t : State} {ps : List Post} (h : Posting s t ps) (hn : ps.length < 4) :
    ∃ qs, qs.length ≤ 1 ∧ (∀ q ∈ qs, isNoHalt q = true) ∧ Posting s (Machine.choice t) (ps ++ qs) := by
  rcases choice_cases t with ⟨-, r, -, hc⟩ | ⟨-, -, -, -, hc⟩ | hc
  · rw [hc]
    exact ⟨[_], by simp, by simp [isNoHalt], h.beginAttempt hn r⟩
  · rw [hc]
    exact ⟨[], by simp, by simp, by simpa using h.startRigAlone⟩
  · rw [hc]
    exact ⟨[], by simp, by simp, by simpa using h⟩

/-! ### The state before the watches -/

/-- `u` is `s` with the PRESENCE `p` of station `n` recorded, divergence judged and the choice made. -/
structure Presented (n : Fin 48) (p : Presence) (s u : State) : Prop where
  frame : FrameBut [.reg, .sync, .roster, .line] s u
  cue : u.cue = s.cue
  entry : (u.roster.entry n.val).bare = (RosterEntry.report (RosterEntry.heard (s.roster.entry n.val)) p).bare
  others : ∀ m, m ≠ n.val → (u.roster.entry m).bare = (s.roster.entry m).bare
  skew : u.roster.skewReported = s.roster.skewReported
  seen : n.val ≠ s.strap → n.val < 32 → u.sync.winchSeen = true
  timer : n.val = s.strap → u.roster.presenceTimer = some 40
  posts : ∃ qs, qs.length ≤ 2 ∧ (∀ q ∈ qs, isNoHalt q = true) ∧ Posting s u qs
  queued : ∀ o ∈ u.line.queue, o ∈ s.line.queue ∨ isNoHalt o.post = true
  kept : n.val ≠ s.strap → s.line.queue ⊆ u.line.queue

/-- The roster's record of a delivered PRESENCE, before the register acts on it. -/
def presented (n : Fin 48) (p : Presence) (s : State) : State :=
  let s1 := seeWinch n.val (recordPresence n p s)
  if n.val = s.strap then ownPresence s1 else s1

theorem presented_other {n : Fin 48} {p : Presence} {s : State} (h : n.val ≠ s.strap) :
    presented n p s = seeWinch n.val (recordPresence n p s) := if_neg h

/-- The station's own PRESENCE is of no peer: the presence timer starts again and divergence is judged. -/
theorem presented_own {n : Fin 48} {p : Presence} {s : State} (h : n.val = s.strap) :
    presented n p s = judgeDivergence ((recordPresence n p s).withRoster
      { (recordPresence n p s).roster with presenceTimer := some 40 }) := by
  have hpeer : seeWinch n.val (recordPresence n p s) = recordPresence n p s := by
    refine if_neg fun hp => ?_
    exact ((isPeer_iff _ _).mp hp).2 h
  unfold presented
  simp only
  rw [if_pos h, hpeer]
  rfl

theorem presented_roster (n : Fin 48) (p : Presence) (s : State) :
    ∃ r, SameRoster r (presented n p s).roster ∧ r.entries = (Roster.put s.roster n (recordedEntry s n p)).entries
      ∧ r.skewReported = s.roster.skewReported ∧ (n.val = s.strap → r.presenceTimer = some 40) := by
  by_cases h : n.val = s.strap
  · rw [presented_own h]
    exact ⟨_, judgeDivergence_roster _, rfl, rfl, fun _ => rfl⟩
  · rw [presented_other h]
    have hr : (seeWinch n.val (recordPresence n p s)).roster = (recordPresence n p s).roster :=
      (frame_seeWinch n.val (recordPresence n p s)).block .roster (by decide)
    rw [hr]
    exact ⟨_, .refl _, rfl, rfl, fun h' => absurd h' h⟩

theorem frame_presented (n : Fin 48) (p : Presence) (s : State) :
    FrameBut [.reg, .sync, .roster, .line] s (presented n p s) := by
  have hrec : FrameBut [.roster] s (recordPresence n p s) := frame_withRoster s _
  by_cases h : n.val = s.strap
  · rw [presented_own h]
    exact (hrec.chain (ds := [.roster]) (frame_withRoster _ _) (by decide) (by decide)).chain (frame_judgeDivergence _) (by decide) (by decide)
  · rw [presented_other h]
    exact hrec.chain (frame_seeWinch _ _) (by decide) (by decide)

theorem Posting.presented {s t : State} (h : Posting s t []) (n : Fin 48) (p : Presence) :
    ∃ qs, qs.length ≤ 1 ∧ (∀ q ∈ qs, isNoHalt q = true) ∧ Posting s (presented n p t) qs := by
  by_cases hn : n.val = t.strap
  · rw [presented_own hn]
    have h1 : Posting s ((recordPresence n p t).withRoster
      { (recordPresence n p t).roster with presenceTimer := some 40 }) [] := h
    exact h1.judgeDivergence
  · rw [presented_other hn]
    exact ⟨[], by simp, by simp, h.congr (seeWinch_line n.val (recordPresence n p t))⟩

theorem choice_cue (s : State) : (choice s).cue = s.cue := by
  rcases choice_cases s with ⟨-, r, -, hc⟩ | ⟨ho, -, -, -, hc⟩ | hc
  · rw [hc]
    rfl
  · rw [hc, startRigAlone_of (by simp [((choiceOpen_iff s).mp ho).1])]
    rfl
  · rw [hc]

theorem presented_cue (n : Fin 48) (p : Presence) (s : State) : (presented n p s).cue = s.cue := by
  by_cases h : n.val = s.strap
  · rw [presented_own h]
    unfold judgeDivergence
    split
    · rw [State.notice_cue, setRegister_eq]
      rfl
    · rfl
  · rw [presented_other h]
    unfold seeWinch
    split <;> rfl

theorem presented_seen {n : Fin 48} {p : Presence} {s : State} (h : n.val ≠ s.strap) (h32 : n.val < 32) :
    (presented n p s).sync.winchSeen = true := by
  have hp : (recordPresence n p s).isPeer n.val = true := (isPeer_iff _ _).mpr ⟨h32, h⟩
  rw [presented_other h]
  unfold seeWinch
  rw [if_pos hp]
  rfl

theorem judgeDivergence_queue {s : State} {o : OutPost} (h : o ∈ (judgeDivergence s).line.queue) :
    o ∈ s.line.queue ∨ isNoHalt o.post = true := by
  unfold judgeDivergence at h
  split at h
  · rw [State.notice_line, setRegister_eq] at h
    exact (Line.mem_offer h).imp_right (fun ho => by rw [ho]; rfl)
  · exact .inl h

theorem presented_queue {n : Fin 48} {p : Presence} {s : State} {o : OutPost} (h : o ∈ (presented n p s).line.queue) :
    o ∈ s.line.queue ∨ isNoHalt o.post = true := by
  by_cases hn : n.val = s.strap
  · rw [presented_own hn] at h
    exact judgeDivergence_queue (s := (recordPresence n p s).withRoster
      { (recordPresence n p s).roster with presenceTimer := some 40 }) h
  · rw [presented_other hn, seeWinch_line] at h
    exact .inl h

theorem choice_queue {s : State} {o : OutPost} (h : o ∈ (choice s).line.queue) :
    o ∈ s.line.queue ∨ isNoHalt o.post = true := by
  rcases choice_cases s with ⟨-, r, -, hc⟩ | ⟨ho, -, -, -, hc⟩ | hc
  · rw [hc] at h
    exact (Line.mem_offer h).imp_right (fun ho => by rw [ho]; rfl)
  · rw [hc, startRigAlone_of (by simp [((choiceOpen_iff s).mp ho).1])] at h
    exact .inl h
  · rw [hc] at h
    exact .inl h

theorem Line.offer_keeps {l : Line} {p : Post} {u : PostUse} (h : l.queue.length < 8) :
    l.queue ⊆ (Line.offer l p u).queue := by
  intro o ho
  cases hs : l.state with
  | on =>
    rw [Line.offer_room l p u (.inl hs) h]
    exact List.mem_append_left _ ho
  | joining =>
    rw [Line.offer_room l p u (.inr hs) h]
    exact List.mem_append_left _ ho
  | lineOff => rwa [Line.offer_closed l p u (.inl hs)]
  | deaf => rwa [Line.offer_closed l p u (.inr (.inl hs))]
  | listenOnly => rwa [Line.offer_closed l p u (.inr (.inr hs))]

theorem choice_keeps {s : State} (h : s.line.queue.length < 8) : s.line.queue ⊆ (choice s).line.queue := by
  rcases choice_cases s with ⟨-, r, -, hc⟩ | ⟨ho, -, -, -, hc⟩ | hc
  · rw [hc]
    exact Line.offer_keeps h
  · rw [hc, startRigAlone_of (by simp [((choiceOpen_iff s).mp ho).1])]
    exact fun _ ho => ho
  · rw [hc]
    exact fun _ ho => ho

theorem Hears.presents {n : Fin 48} {q : Option Post} {s v : State} (hv : Hears n q s v) (p : Presence) :
    Presented n p s (choice (presented n p v)) := by
  obtain ⟨r, hr, hent, hskew, htimer⟩ := presented_roster n p v
  have hsame := hr.trans (choice_roster (presented n p v))
  have hstrap : v.strap = s.strap := hv.frame.strap
  have hentry : ∀ m, r.entry m = (Roster.put v.roster n (recordedEntry v n p)).entry m := by
    intro m
    unfold Roster.entry
    rw [hent]
  have hvn : v.roster.entry n.val = RosterEntry.heard (s.roster.entry n.val) := by
    rw [hv.roster, Roster.entry_put_same]
  refine ⟨?_, ?_, ?_, fun m hm => ?_, ?_, fun h1 h2 => ?_, fun h => ?_, ?_, fun o ho => ?_, fun hn => ?_⟩
  · exact (hv.frame.chain (ds := [.reg, .sync, .roster, .line]) (frame_presented n p v) (by decide) (by decide)).chain (frame_choice _) (by decide) (by decide)
  · rw [choice_cue, presented_cue, hv.cue]
  · rw [hsame.entries, hentry, Roster.entry_put_same, recordedEntry_bare, hvn]
  · rw [hsame.entries, hentry, Roster.entry_put_other _ _ _ _ hm, hv.roster, Roster.entry_put_other _ _ _ _ hm]
  · rw [hsame.skew, hskew, hv.roster]
    rfl
  · rw [choice_winchSeen]
    exact presented_seen (by rw [hstrap]; exact h1) h2
  · rw [hsame.timer]
    exact htimer (by rw [hstrap, h])
  · obtain ⟨qs, h1, h2, h3⟩ := hv.posting.presented n p
    obtain ⟨rs, h4, h5, h6⟩ := h3.choice_noHalt (by omega)
    refine ⟨qs ++ rs, by simp only [List.length_append]; omega, fun x hx => ?_, h6⟩
    exact (List.mem_append.mp hx).elim (h2 x) (h5 x)
  · rcases choice_queue ho with ho | ho
    · exact (presented_queue ho).imp_left (fun h => hv.queue_subset h)
    · exact .inr ho
  · have hline : (presented n p v).line = v.line := by
      rw [presented_other (by rw [hstrap]; exact hn), seeWinch_line]
      rfl
    have hqueue : v.line.queue = s.line.queue := by
      rw [hv.line, Line.ownRef_none (.inl hn)]
      rfl
    have hroom := hv.posting.room
    rw [← hqueue, ← hline]
    refine choice_keeps ?_
    rw [hline]
    simp only [List.length_nil] at hroom
    omega

/-! ### The watches (06 R130, R131) -/

theorem watchSkew_cases (n : Nat) (s : State) :
    ((s.isMember n && n != s.strap && s.axis.state == .flying && !s.roster.skewReported
        && skewCase (s.roster.entry n) s) = true
      ∧ watchSkew n s = (s.withRoster { s.roster with skewReported := true }).post (.halt s.flyer 4))
    ∨ ((s.isMember n && n != s.strap && s.axis.state == .flying && !s.roster.skewReported
        && skewCase (s.roster.entry n) s) = false ∧ watchSkew n s = s) := by
  unfold watchSkew
  split
  · rename_i h
    exact .inl ⟨h, rfl⟩
  · rename_i h
    exact .inr ⟨eq_false_of_ne_true h, rfl⟩

theorem watchShowStop_cases (n : Nat) (s : State) :
    ((s.isPeer n && (s.roster.entry n).showStop == some true && !s.cue.showStop && s.line.state == .on
        && !s.line.queue.any isShowHalt) = true ∧ watchShowStop n s = s.post (.halt 255 5))
    ∨ ((s.isPeer n && (s.roster.entry n).showStop == some true && !s.cue.showStop && s.line.state == .on
        && !s.line.queue.any isShowHalt) = false ∧ watchShowStop n s = s) := by
  unfold watchShowStop
  split
  · rename_i h
    exact .inl ⟨h, rfl⟩
  · rename_i h
    exact .inr ⟨eq_false_of_ne_true h, rfl⟩

end Sys2Proof.Machine
end

section
/-! PRESENCE at its receivers: the three obligations. -/

namespace Sys2Proof.Machine

theorem exec_presence {n : Fin 48} {p : Presence} {s v : State}
    (hv : ∀ act, deliver n (some (.presence p)) act s = finish (act v)) :
    exec (.presence n p) s = .next (finish (watchShowStop n.val (watchSkew n.val (choice (presented n p v))))) :=
  congrArg Host.Outcome.next (hv (takePresence n p))

/-- What the two watches leave, and what they post. -/
theorem watched {n : Fin 48} {p : Presence} {s u : State} (h : Presented n p s u) :
    ∃ qs a b, (∀ q ∈ qs, isNoHalt q = true)
      ∧ (a = [] ∨ a = [.halt s.flyer 4]) ∧ (b = [] ∨ b = [.halt 255 5])
      ∧ ((s.isMember n.val && n.val != s.strap && s.axis.state == .flying && !s.roster.skewReported
          && skewCase (u.roster.entry n.val) u) = true ↔ a ≠ [])
      ∧ ((s.isPeer n.val && (u.roster.entry n.val).showStop == some true && !s.cue.showStop && s.line.state == .on
          && !(watchSkew n.val u).line.queue.any isShowHalt) = true ↔ b ≠ [])
      ∧ Posting s (watchShowStop n.val (watchSkew n.val u)) (qs ++ a ++ b)
      ∧ (watchShowStop n.val (watchSkew n.val u)).roster
          = { u.roster with skewReported := s.roster.skewReported || !a.isEmpty }
      ∧ (watchShowStop n.val (watchSkew n.val u)).sync = u.sync
      ∧ (watchShowStop n.val (watchSkew n.val u)).reg = u.reg
      ∧ FrameBut [.reg, .sync, .roster, .line] s (watchShowStop n.val (watchSkew n.val u)) := by
  obtain ⟨qs, hlen, hno, hp⟩ := h.posts
  have hax : u.axis = s.axis := h.frame.block .axis (by decide)
  have hmem : u.isMember n.val = s.isMember n.val := by simp [State.isMember, h.frame.members]
  have hskew : ∃ a, (a = [] ∨ a = [.halt s.flyer 4])
      ∧ ((s.isMember n.val && n.val != s.strap && s.axis.state == .flying && !s.roster.skewReported
          && skewCase (u.roster.entry n.val) u) = true ↔ a ≠ [])
      ∧ Posting s (watchSkew n.val u) (qs ++ a)
      ∧ (watchSkew n.val u).roster = { u.roster with skewReported := s.roster.skewReported || !a.isEmpty }
      ∧ (watchSkew n.val u).sync = u.sync ∧ (watchSkew n.val u).reg = u.reg ∧ (watchSkew n.val u).cue = u.cue
      ∧ FrameBut [.roster, .line] u (watchSkew n.val u) := by
    rw [← hmem, ← h.frame.strap, ← hax, ← h.skew, ← h.frame.flyer]
    rcases watchSkew_cases n.val u with ⟨hc, he⟩ | ⟨hc, he⟩
    · rw [he]
      refine ⟨[.halt u.flyer 4], .inr rfl, by simp [hc], ?_, ?_, rfl, rfl, rfl,
        (frame_withRoster u _).chain (frame_post _ _) (by decide) (by decide)⟩
      · exact (hp.withRoster { u.roster with skewReported := true }).post (.halt u.flyer 4) (by omega)
      · simp
    · rw [he]
      refine ⟨[], .inl rfl, by simp [hc], by simpa using hp, by simp, rfl, rfl, rfl, .refl _ u⟩
  obtain ⟨a, ha, hca, hpa, hra, hsa, hga, hcua, hfa⟩ := hskew
  have hfa' := h.frame.chain (ds := [.reg, .sync, .roster, .line]) hfa (by decide) (by decide)
  have hlen2 : (qs ++ a).length < 4 := by
    rcases ha with rfl | rfl <;> simp only [List.length_append, List.length_nil, List.length_singleton] <;> omega
  have hpeer : (watchSkew n.val u).isPeer n.val = s.isPeer n.val := by simp [State.isPeer, hfa'.strap]
  have hent : (watchSkew n.val u).roster.entry n.val = u.roster.entry n.val := by
    rw [hra]
    rfl
  have hstate : (watchSkew n.val u).line.state = s.line.state := hpa.state
  have hcond : ∀ b : Bool, (s.isPeer n.val && (u.roster.entry n.val).showStop == some true && !s.cue.showStop
      && s.line.state == .on && !(watchSkew n.val u).line.queue.any isShowHalt) = b ↔
      ((watchSkew n.val u).isPeer n.val && ((watchSkew n.val u).roster.entry n.val).showStop == some true
        && !(watchSkew n.val u).cue.showStop && (watchSkew n.val u).line.state == .on
        && !(watchSkew n.val u).line.queue.any isShowHalt) = b := by
    intro b
    rw [hpeer, hent, hcua, h.cue, hstate]
  rcases watchShowStop_cases n.val (watchSkew n.val u) with ⟨hc, he⟩ | ⟨hc, he⟩
  · refine ⟨qs, a, [.halt 255 5], hno, ha, .inr rfl, hca, ?_, ?_, ?_, ?_, ?_, ?_⟩
    · simp only [(hcond true).mpr hc, ne_eq, List.cons_ne_self, not_false_eq_true]
    all_goals rw [he]
    · exact hpa.post _ hlen2
    · exact hra
    · exact hsa
    · exact hga
    · exact hfa'.chain (frame_post _ _) (by decide) (by decide)
  · refine ⟨qs, a, [], hno, ha, .inl rfl, hca, ?_, ?_, ?_, ?_, ?_, ?_⟩
    · simp [(hcond false).mpr hc]
    all_goals rw [he]
    · simpa using hpa
    · exact hra
    · exact hsa
    · exact hga
    · exact hfa'

/-- The station does not watch its own PRESENCE. -/
theorem watchSkew_own {n : Nat} {s : State} (h : n = s.strap) : watchSkew n s = s := if_neg (by simp [h])

theorem watchShowStop_own {n : Nat} {s : State} (h : n = s.strap) : watchShowStop n s = s :=
  if_neg (by simp [State.isPeer, h])

/-- The agree mark of a peer after its PRESENCE (02 R41). -/
theorem Hears.presents_mark {n : Fin 48} {q : Option Post} {s v : State} (hv : Hears n q s v) (p : Presence)
    (hn : n.val ≠ s.strap) (h32 : n.val < 32) :
    (s.reg.state = .current → ((choice (presented n p v)).roster.entry n.val).mark
        = markAfter v p (RosterEntry.report (v.roster.entry n.val) p).mark)
      ∧ (s.reg.state ≠ .current → ((choice (presented n p v)).roster.entry n.val).mark = .unmarked) := by
  have hn' : n.val ≠ v.strap := by rw [hv.frame.strap]; exact hn
  have hreg : (presented n p v).reg = s.reg := by
    rw [presented_other hn']
    exact Eq.trans ((frame_seeWinch n.val (recordPresence n p v)).block .reg (by decide)) hv.reg
  have hown : ((presented n p v).roster.entry n.val).mark
      = markAfter v p (RosterEntry.report (v.roster.entry n.val) p).mark := by
    rw [presented_other hn', show (seeWinch n.val (recordPresence n p v)).roster = (recordPresence n p v).roster from
      (frame_seeWinch n.val (recordPresence n p v)).block .roster (by decide), recordPresence_eq, State.withRoster_roster,
      Roster.entry_put_same, recordedEntry_mark h32 hn']
  refine ⟨fun hcur => ?_, fun hcur => ?_⟩
  · rw [choice_closed, hown]
    rw [Bool.eq_false_iff]
    intro ho
    have := ((choiceOpen_iff _).mp ho).1
    rw [hreg, hcur] at this
    exact absurd this (by decide)
  · rcases (choice_roster (presented n p v)).marks n.val with h | h
    · rw [h, hown, markAfter, hv.reg, if_pos hcur]
    · exact h

/-- What the skew monitor compares, in the post's own fields. -/
theorem skewCase_presented {n : Fin 48} {p : Presence} {s u : State} (h : Presented n p s u) :
    skewCase (u.roster.entry n.val) u = true ↔ p.axis = some .flying
      ∧ ((rosterFlyer p.flyer = some s.flyer ∧ p.runSegment = s.cue.current.map (·.segment)) →
          s.conf.skewLimit < stepGap p.stepIndex s.engine.stepIndex) := by
  obtain ⟨-, -, -, hax, -, hfl, -, hrun, hstep, -⟩ := RosterEntry.bare_eq h.entry
  have hf : FrameBut [.reg, .sync, .roster, .line] s u := h.frame
  replace hax : (u.roster.entry n.val).axis = p.axis := hax
  replace hfl : (u.roster.entry n.val).flyer = rosterFlyer p.flyer := hfl
  replace hrun : (u.roster.entry n.val).runSegment = p.runSegment := hrun
  replace hstep : (u.roster.entry n.val).stepIndex = some p.stepIndex := hstep
  unfold skewCase
  rw [hax, hfl, hrun, hstep, h.cue, hf.flyer, hf.conf, show u.engine = s.engine from hf.block .engine (by decide)]
  simp only [Option.getD_some, Bool.and_eq_true, beq_iff_eq]
  refine and_congr_right fun _ => ?_
  by_cases hm : rosterFlyer p.flyer = some s.flyer ∧ p.runSegment = s.cue.current.map (·.segment)
  · rw [if_pos hm]
    simp [hm]
  · rw [if_neg hm]
    simp [hm]

theorem rosterFlyer_eq {f g : Nat} (h : rosterFlyer f = some g) : f = g ∧ 1 ≤ g ∧ g ≤ 15 := by
  unfold rosterFlyer at h
  split at h
  · rename_i hr
    cases h
    simpa using hr
  · exact absurd h (by simp)

theorem halt_notMem {qs : List Post} (h : ∀ q ∈ qs, isNoHalt q = true) (a b : Nat) : Post.halt a b ∉ qs := fun hm =>
  absurd (h _ hm) (by simp [isNoHalt])

/-- A show-stop HALT stands in the queue after the skew monitor just where it stood before. -/
theorem showHalt_watched {n : Fin 48} {p : Presence} {s u : State} (h : Presented n p s u) (hn : n.val ≠ s.strap) :
    (watchSkew n.val u).line.queue.any isShowHalt = true ↔ ∃ o ∈ s.line.queue, o.post = .halt 255 5 := by
  obtain ⟨qs, hlen, -, hp⟩ := h.posts
  have hroom : u.line.queue.length < 8 := by
    have := hp.room
    omega
  have hw : (∀ o ∈ (watchSkew n.val u).line.queue, o ∈ u.line.queue ∨ o.post = .halt u.flyer 4)
      ∧ u.line.queue ⊆ (watchSkew n.val u).line.queue := by
    rcases watchSkew_cases n.val u with ⟨-, he⟩ | ⟨-, he⟩
    · rw [he]
      exact ⟨fun o ho => Line.mem_offer ho, Line.offer_keeps (l := u.line) hroom⟩
    · rw [he]
      exact ⟨fun o ho => .inl ho, fun _ ho => ho⟩
  simp only [List.any_eq_true, isShowHalt, beq_iff_eq]
  constructor
  · rintro ⟨o, ho, hpost⟩
    have hpost' : o.post = .halt 255 5 := hpost
    rcases hw.1 o ho with ho | ho
    · rcases h.queued o ho with ho | ho
      · exact ⟨o, ho, hpost'⟩
      · simp [hpost', isNoHalt] at ho
    · simp [hpost'] at ho
  · rintro ⟨o, ho, hpost⟩
    exact ⟨o, hw.2 (h.kept hn ho), hpost⟩

end Sys2Proof.Machine

open Sys2Proof Sys2Proof.Machine

/-- Settles O42. -/
theorem presenceIsRecorded : Obligations.PresenceIsRecorded := by
  intro n p s hs
  obtain ⟨v, hv, hv'⟩ := hs.receives.delivers n (some (.presence p))
  have hex := exec_presence hv
  have hpres := hv'.presents p
  obtain ⟨qs, a, b, -, -, -, -, -, hp, hr, hsync, -, hf⟩ := watched hpres
  have hent : ∀ m, (finish (watchShowStop n.val (watchSkew n.val (choice (presented n p v))))).roster.entry m
      = (choice (presented n p v)).roster.entry m := by
    intro m
    rw [finish_roster _ hp.quiet, hr]
    rfl
  refine ⟨_, hex, ?_, fun m hm => ?_, fun hn => ?_, fun hn h32 hcur => ?_, fun hn h32 hcur => ?_, fun hn h32 => ?_,
    hf.finish hp.quiet⟩
  · obtain ⟨h1, h2, h3, h4, h5, h6, h7, h8, h9, h10⟩ := RosterEntry.bare_eq hpres.entry
    rw [← hent] at h1 h2 h3 h4 h5 h6 h7 h8 h9 h10
    refine ⟨h1, h2, h3, h4, h5, ?_, h7, h8, h9, h10⟩
    rw [h6]
    simp [RosterEntry.report, rosterFlyer]
  · rw [hent]
    exact hpres.others m hm
  · rw [finish_roster _ hp.quiet, hr]
    exact hpres.timer hn
  · rw [hent, (hv'.presents_mark p hn h32).1 hcur]
    refine ⟨fun h1 h2 => ?_, fun h1 h2 => ?_, fun h1 => ?_⟩
    · simp [markAfter, hv'.reg, hcur, h1, h2]
    · simp [markAfter, hv'.reg, hcur, h1, h2]
    · rcases h1 with h1 | h1 <;> simp [markAfter, hv'.reg, hcur, h1]
  · rw [hent, (hv'.presents_mark p hn h32).2 hcur]
  · rw [finish_sync _ hp.quiet, hsync]
    exact hpres.seen hn h32

/-- Settles O43. -/
theorem divergenceJudged : Obligations.DivergenceJudged := by
  intro n p s hs hn hcur disagreeing agreeing
  obtain ⟨v, hv, hv'⟩ := hs.receives.delivers n (some (.presence p))
  have hex := exec_presence hv
  have hn' : n.val = v.strap := by rw [hv'.frame.strap]; exact hn
  have hcount : ∀ m, marked m ((recordPresence n p v).withRoster
      { (recordPresence n p v).roster with presenceTimer := some 40 })
      = ((List.range 32).filter (fun i => i != s.strap && (s.roster.entry i).present && (s.roster.entry i).seen
          && (s.roster.entry i).reg == some .current && (s.roster.entry i).mark == m)).length := by
    intro m
    unfold marked State.peers
    rw [List.filter_filter]
    refine congrArg List.length (List.filter_congr fun i _ => ?_)
    by_cases hi : i = s.strap
    · simp [hi, hv'.frame.strap, recordPresence_eq]
    · have hin : i ≠ n.val := by rw [hn]; exact hi
      have he : Roster.entry { (recordPresence n p v).roster with presenceTimer := some 40 } i = s.roster.entry i := by
        show (Roster.put v.roster n (recordedEntry v n p)).entry i = s.roster.entry i
        rw [Roster.entry_put_other _ _ _ _ hin, hv'.roster, Roster.entry_put_other _ _ _ _ hin]
      have hs' : ((recordPresence n p v).withRoster
        { (recordPresence n p v).roster with presenceTimer := some 40 }).strap = s.strap := hv'.frame.strap
      rw [State.withRoster_roster, he, hs']
      have hne : (i != s.strap) = true := by simpa using hi
      simp only [RosterEntry.reportsCurrent, hne, Bool.and_true, Bool.true_and]
  have hx : Posting s ((recordPresence n p v).withRoster
      { (recordPresence n p v).roster with presenceTimer := some 40 }) [] := hv'.posting
  have hxf : FrameBut [.roster, .line] s ((recordPresence n p v).withRoster
      { (recordPresence n p v).roster with presenceTimer := some 40 }) :=
    (hv'.frame.chain (ds := [.roster, .line]) (frame_withRoster v _) (by decide) (by decide)).chain (frame_withRoster _ _) (by decide) (by decide)
  rw [presented_own hn'] at hex
  generalize (recordPresence n p v).withRoster { (recordPresence n p v).roster with presenceTimer := some 40 } = x at *
  have hxr : x.reg = s.reg := hxf.block .reg (by decide)
  have hclosed : ∀ u : State, u.reg.state ≠ .syncing → choice u = u := fun u hu =>
    choice_closed (by
      rw [Bool.eq_false_iff]
      exact fun ho => hu ((choiceOpen_iff u).mp ho).1)
  rcases Nat.lt_or_ge agreeing disagreeing with hlt | hge
  · have hjudge : judgeDivergence x = (setRegister .stale x).notice .diverged x.strap none (marked .disagrees x) :=
      if_pos ⟨by rw [hxr, hcur], by rw [hcount, hcount]; exact hlt⟩
    have hreg : ((setRegister .stale x).notice .diverged x.strap none (marked .disagrees x)).reg
        = { s.reg with state := .stale } := by
      rw [State.notice_reg, setRegister_eq, State.withSync_reg, State.withRoster_reg, State.withReg_reg, hxr]
    have hstrap : ((setRegister .stale x).notice .diverged x.strap none (marked .disagrees x)).strap = n.val := by
      rw [State.notice_strap, (frame_setRegister .stale x).strap, hxf.strap, hn]
    have hp := (hx.setRegister .stale).notice .diverged x.strap none (marked .disagrees x) (by simp)
    have hf : FrameBut [.reg, .sync, .roster, .line] s
        ((setRegister .stale x).notice .diverged x.strap none (marked .disagrees x)) :=
      (hxf.chain (ds := [.reg, .sync, .roster, .line]) (frame_setRegister _ _) (by decide) (by decide)).chain (frame_notice _ _ _ _ _) (by decide) (by decide)
    rw [hjudge, hclosed _ (by rw [hreg]; simp), watchSkew_own hstrap.symm, watchShowStop_own hstrap.symm] at hex
    refine ⟨_, hex, fun _ => ⟨?_, ?_, fun m _ => ?_⟩, fun h => absurd h (by omega), hf.finish hp.quiet⟩
    · rw [finish_reg _ hp.quiet, hreg]
    · rw [hp.finish.newPosts hs.2, (frame_setRegister .stale x).flyer, hxf.strap, hxf.flyer, hcount]
      rfl
    · rw [finish_roster _ hp.quiet, State.notice_roster, setRegister_eq, State.withSync_roster, State.withRoster_roster,
        rosterSetting, if_pos ⟨by rw [hxr, hcur]; decide, .inr (by rw [hxr, hcur])⟩, Roster.entry_unmarkAll]
      rfl
  · have hjudge : judgeDivergence x = x := if_neg (by
      rw [hcount, hcount]
      rintro ⟨-, h⟩
      exact absurd h (Nat.not_lt.mpr hge))
    have hstrap : n.val = x.strap := by rw [hxf.strap, hn]
    rw [hjudge, hclosed x (by rw [hxr, hcur]; decide), watchSkew_own hstrap, watchShowStop_own hstrap] at hex
    refine ⟨_, hex, fun h => absurd h (by omega), fun _ => ⟨?_, hx.finish.newPosts hs.2⟩, (hxf.over (by decide)).finish hx.quiet⟩
    rw [finish_reg _ hx.quiet, hxr]

/-- Settles O44. -/
theorem watchesPostHalts : Obligations.WatchesPostHalts := by
  intro n p s hs hn
  obtain ⟨v, hv, hv'⟩ := hs.receives.delivers n (some (.presence p))
  have hex := exec_presence hv
  have hpres := hv'.presents p
  have hcase := skewCase_presented hpres
  have hhalt := showHalt_watched hpres hn
  obtain ⟨qs, a, b, hno, ha, hb, hca, hcb, hp, hr, -, -, hf⟩ := watched hpres
  have hposts := hp.finish.newPosts hs.2
  have hshow : ((choice (presented n p v)).roster.entry n.val).showStop = some p.showStop :=
    (RosterEntry.bare_eq hpres.entry).2.2.2.2.2.2.2.2.2
  generalize choice (presented n p v) = u at *
  have hskewed : (finish (watchShowStop n.val (watchSkew n.val u))).roster.skewReported
      = (s.roster.skewReported || !a.isEmpty) := by
    rw [finish_roster _ hp.quiet, hr]
  simp only [Bool.and_eq_true, hcase, isMember_iff, isPeer_iff, bne_iff_ne, beq_iff_eq, Bool.not_eq_true',
    hshow, Option.some.injEq] at hca hcb
  rw [← Bool.not_eq_true ((watchSkew n.val u).line.queue.any isShowHalt), hhalt] at hcb
  have hmem4 : Post.halt s.flyer 4 ∈ qs ++ a ++ b ↔ a ≠ [] := by
    rcases ha with rfl | rfl <;> rcases hb with rfl | rfl <;> simp [halt_notMem hno]
  have hmem5 : Post.halt 255 5 ∈ qs ++ a ++ b ↔ b ≠ [] := by
    rcases ha with rfl | rfl <;> rcases hb with rfl | rfl <;> simp [halt_notMem hno]
  refine ⟨fun h1 h2 h3 h4 h5 => ?_, fun h => ?_, fun h1 h2 h3 h4 => ?_, fun h => ?_⟩
  · have hane : a ≠ [] := by
      refine hca.mp ⟨⟨⟨⟨h1, hn⟩, h2⟩, h3⟩, h4, fun hm => ?_⟩
      obtain ⟨hfl, -⟩ := rosterFlyer_eq hm.1
      rcases h5 with h | h | h | h
      · exact absurd hfl h
      · exact absurd hm.2 h
      · unfold stepGap
        omega
      · unfold stepGap
        omega
    refine ⟨_, hex, ?_, by rw [hposts, hmem4]; exact hane, hf.finish hp.quiet⟩
    rw [hskewed]
    simp [hane]
  · have hnil : a = [] := by
      by_contra hne
      obtain ⟨⟨⟨⟨h1, -⟩, h2⟩, h3⟩, h4, h5⟩ := hca.mpr hne
      rcases h with h | h | h | h | ⟨hfl, hf1, hf15, hrun, hle1, hle2⟩
      · exact h h1
      · exact h h2
      · rw [h3] at h
        exact absurd h (by simp)
      · exact h h4
      · have := h5 ⟨by simp [rosterFlyer, hfl, hf1, hf15], hrun⟩
        unfold stepGap at this
        omega
    refine ⟨_, hex, ?_, by rw [hposts, hmem4]; simp [hnil], hf.finish hp.quiet⟩
    rw [hskewed]
    simp [hnil]
  · have hbne : b ≠ [] := by
      refine hcb.mp ⟨⟨⟨⟨⟨h1, hn⟩, h2⟩, h3⟩, hs.2⟩, ?_⟩
      rintro ⟨o, ho, hpost⟩
      exact h4 o ho hpost
    exact ⟨_, hex, by rw [hposts, hmem5]; exact hbne, hf.finish hp.quiet⟩
  · have hnil : b = [] := by
      by_contra hne
      obtain ⟨⟨⟨⟨⟨h1, -⟩, h2⟩, h3⟩, -⟩, h4⟩ := hcb.mpr hne
      rcases h with h | h | h | h
      · omega
      · rw [h2] at h
        exact absurd h (by simp)
      · rw [h3] at h
        exact absurd h (by simp)
      · exact h4 h
    exact ⟨_, hex, by rw [hposts, hmem5]; simp [hnil], hf.finish hp.quiet⟩

end

section
/-! The lapse of a station: the roster, the set ready table, the HALT for a lost member, and what a full outgoing queue gives up for it. -/

namespace Sys2Proof.Machine

/-! ### The post a full queue gives up (07 R148) -/

theorem le_highestClass {ps : List OutPost} {o : OutPost} (h : o ∈ ps) : Post.cls o.post ≤ highestClass ps := by
  have hfold : ∀ (l : List OutPost) (c : Nat), c ≤ l.foldl (fun c p => max c (Post.cls p.post)) c
      ∧ ∀ p ∈ l, Post.cls p.post ≤ l.foldl (fun c p => max c (Post.cls p.post)) c := by
    intro l
    induction l with
    | nil => exact fun c => ⟨Nat.le_refl c, fun p hp => absurd hp List.not_mem_nil⟩
    | cons q l ih =>
      intro c
      obtain ⟨h1, h2⟩ := ih (max c (Post.cls q.post))
      refine ⟨(Nat.le_max_left _ _).trans h1, fun p hp => ?_⟩
      rcases List.mem_cons.mp hp with rfl | hp
      · exact (Nat.le_max_right _ _).trans h1
      · exact h2 p hp
  exact (hfold ps 0).2 o h

/-- The last of an ordered queue is its youngest post. -/
theorem getLast_youngest {q : List OutPost} (hq : (q.map (·.age)).Pairwise (· < ·)) {v : OutPost} (hv : v ∈ q)
    (hmax : ∀ o ∈ q, o.age ≤ v.age) : q.getLast? = some v := by
  rcases List.eq_nil_or_concat q with rfl | ⟨l, w, rfl⟩
  · exact absurd hv List.not_mem_nil
  · rw [List.concat_eq_append] at hv hmax hq ⊢
    rw [List.getLast?_concat]
    rcases List.mem_append.mp hv with hv | hv
    · rw [List.map_append, List.pairwise_append] at hq
      have h1 := hq.2.2 v.age (List.mem_map_of_mem hv) w.age (by simp)
      have h2 := hmax w (by simp)
      omega
    · rw [List.mem_singleton.mp hv]

theorem displaceable_iff (l : Line) (o : OutPost) :
    Line.displaceable l o = true ↔ l.onLine ≠ some (.own (.queued o.age)) ∧ l.retry ≠ some (.queued o.age) := by
  simp [Line.displaceable]

theorem victim_of_displaced {l : Line} {c : Nat} {v : OutPost} (hl : (l.queue.map (·.age)).Pairwise (· < ·))
    (h : displacedBy l c v) : Line.victim l c = some v := by
  obtain ⟨hmem, hon, hre, hcls, hall⟩ := h
  have hv : v ∈ l.queue.filter (Line.displaceable l) :=
    List.mem_filter.mpr ⟨hmem, (displaceable_iff l v).mpr ⟨hon, hre⟩⟩
  have hover : ∀ o ∈ l.queue.filter (Line.displaceable l),
      Post.cls o.post < Post.cls v.post ∨ Post.cls o.post = Post.cls v.post ∧ o.age ≤ v.age := by
    intro o ho
    obtain ⟨ho, hd⟩ := List.mem_filter.mp ho
    obtain ⟨h1, h2⟩ := (displaceable_iff l o).mp hd
    exact hall o ho h1 h2
  have hhigh : highestClass (l.queue.filter (Line.displaceable l)) = Post.cls v.post := by
    refine Nat.le_antisymm (highestClass_le fun o ho => ?_) (le_highestClass hv)
    rcases hover o ho with h | h <;> omega
  have hlast : ((l.queue.filter (Line.displaceable l)).filter (fun p => Post.cls p.post == Post.cls v.post)).getLast?
      = some v := by
    refine getLast_youngest ?_ (List.mem_filter.mpr ⟨hv, by simp⟩) fun o ho => ?_
    · exact hl.sublist ((List.filter_sublist.trans List.filter_sublist).map _)
    · obtain ⟨ho, hc⟩ := List.mem_filter.mp ho
      have hc' : Post.cls o.post = Post.cls v.post := by simpa using hc
      rcases hover o ho with h | h
      · omega
      · exact h.2
  unfold Line.victim
  simp only [hhigh]
  rw [if_pos hcls, hlast]

theorem victim_none {l : Line} {c : Nat} (h : ∀ o ∈ l.queue, Post.cls o.post ≤ c ∨ l.onLine = some (.own (.queued o.age))
    ∨ l.retry = some (.queued o.age)) : Line.victim l c = none := by
  have hle : highestClass (l.queue.filter (Line.displaceable l)) ≤ c := by
    refine highestClass_le fun o ho => ?_
    obtain ⟨ho, hd⟩ := List.mem_filter.mp ho
    obtain ⟨h1, h2⟩ := (displaceable_iff l o).mp hd
    exact (h o ho).resolve_right (by tauto)
  unfold Line.victim
  simp only
  exact if_neg (by omega)

/-- An entry of an ordered queue is taken out by its age. -/
theorem eraseP_age {q : List OutPost} (hq : (q.map (·.age)).Pairwise (· < ·)) (a : Nat) :
    q.eraseP (fun o => o.age == a) = q.filter (fun o => o.age != a) := by
  induction q with
  | nil => rfl
  | cons o q ih =>
    rw [List.map_cons, List.pairwise_cons] at hq
    by_cases h : o.age = a
    · have hrest : ∀ p ∈ q, (p.age != a) = true := fun p hp => by
        have := hq.1 p.age (List.mem_map_of_mem hp)
        simp only [bne_iff_ne, ne_eq]
        omega
      rw [List.eraseP_cons_of_pos (by simpa using h), List.filter_cons_of_neg (by simpa using h),
        List.filter_eq_self.mpr hrest]
    · rw [List.eraseP_cons_of_neg (by simpa using h), List.filter_cons_of_pos (by simpa using h), ih hq.2]

/-- A post offered to a full queue displaces the youngest post of the highest class. -/
theorem Line.offer_displacing {l : Line} {p : Post} {u : PostUse} {v : OutPost} (hs : l.state = .on)
    (hf : l.queue.length = 8) (hl : (l.queue.map (·.age)).Pairwise (· < ·)) (h : displacedBy l (Post.cls p) v) :
    Line.offer l p u = { l with
      queue := l.queue.filter (fun o => o.age != v.age) ++ [⟨p, u, l.nextAge⟩]
      nextAge := l.nextAge + 1, reports := l.reports ++ [v] } := by
  have hroom : ¬l.queue.length < Config.maxPosts := by
    rw [hf]
    decide
  rw [← eraseP_age hl]
  simp [Line.offer, hs, hroom, victim_of_displaced hl h]

theorem Line.offer_refused {l : Line} {p : Post} {u : PostUse} (hs : l.state = .on) (hf : l.queue.length = 8)
    (h : Line.victim l (Post.cls p) = none) :
    Line.offer l p u = { l with nextAge := l.nextAge + 1, reports := l.reports ++ [⟨p, u, l.nextAge⟩] } := by
  have hroom : ¬l.queue.length < Config.maxPosts := by
    rw [hf]
    decide
  simp [Line.offer, hs, hroom, h]

/-! ### The end of an event with one discard -/

theorem finish_reported {u : State} {o : OutPost} (hr : u.line.reports = [o])
    (hq : (takeReport o [] u).line.reports = []) : finish u = finish (takeReport o [] u) := by
  have hd : drainReports (reportFuel u.line) u = takeReport o [] u := by
    rw [reportFuel, hr]
    exact (drainReports_cons 64 u o [] hr).trans (drainReports_nil _ _ hq)
  rw [finish_quiet _ hq, finish, hd]
  have hstore : (trackReclaim (trackChain (takeReport o [] u))).store = (takeReport o [] u).store := by simp
  rw [hstore]

/-! ### LAPSE (06 R123, R129) -/

/-- The station without the roster entry of `n` and, where `n` is another member, with its slot empty. -/
def lapsed (n : Fin 48) (s : State) : State :=
  (s.withRoster (Roster.put s.roster n RosterEntry.absent)).withCue (s.cue.slotted s.members n.val none)

theorem exec_lapse {n : Fin 48} {s : State} (h : s.power = .running) :
    exec (.lapse n) s = .next (finish (lapseStation n s)) := by
  have hex : exec (.lapse n) s = .next (event (lapseStation n) s) := rfl
  rw [hex, event, h]

theorem lapseStation_stopped {n : Fin 48} {s : State} (h : (s.roster.entry n.val).lapse = none) : lapseStation n s = s := by
  simp [lapseStation, h]

theorem lapseStation_other {n : Fin 48} {s : State} {x : Nat} (h : (s.roster.entry n.val).lapse = some x)
    (hn : n.val ∉ s.members ∨ n.val = s.strap) :
    lapseStation n s = s.withRoster (Roster.put s.roster n RosterEntry.absent) := by
  unfold lapseStation
  rw [if_pos (by rw [h]; rfl)]
  refine if_neg ?_
  rw [isMember_iff]
  tauto

theorem lapseStation_member {n : Fin 48} {s : State} {x : Nat} (h : (s.roster.entry n.val).lapse = some x)
    (hn : n.val ∈ s.members) (hne : n.val ≠ s.strap) :
    lapseStation n s = if s.axis.state = .armed ∨ s.axis.state = .flying ∨ s.axis.state = .stopping ∨ s.cue.queue ≠ []
      then (lapsed n s).post (.halt s.flyer 3) else lapsed n s := by
  unfold lapseStation
  rw [if_pos (by rw [h]; rfl)]
  refine (if_pos ⟨(isMember_iff s n.val).mpr hn, hne⟩).trans ?_
  unfold memberLapses
  have hhalts : lapseHalts ((s.withRoster (Roster.put s.roster n RosterEntry.absent)).putSlot n.val none) = true
      ↔ s.axis.state = .armed ∨ s.axis.state = .flying ∨ s.axis.state = .stopping ∨ s.cue.queue ≠ [] := by
    rw [putSlot_eq]
    simp [lapseHalts, CueUnit.slotted, or_assoc]
  simp only [hhalts]
  rfl

theorem frame_lapsed (n : Fin 48) (s : State) : FrameBut [.roster, .cue] s (lapsed n s) :=
  (frame_withRoster s _).chain (frame_withCue _ _) (by decide) (by decide)

/-! ### A full queue at the lapse of a member -/

/-- The states between the HALT's entry into a full queue and the report of what it displaced. -/
theorem lapse_full {n : Fin 48} {x : Nat} {s : State} {q : List OutPost} {o : OutPost} (hpow : s.power = .running)
    (hn : n.val ∈ s.members) (hne : n.val ≠ s.strap) (hx : (s.roster.entry n.val).lapse = some x)
    (hhalts : s.axis.state = .armed ∨ s.axis.state = .flying ∨ s.axis.state = .stopping ∨ s.cue.queue ≠ [])
    (hoff : Line.offer s.line (.halt s.flyer 3) .plain
      = { s.line with queue := q, nextAge := s.line.nextAge + 1, reports := [o] }) :
    ∃ u w, exec (.lapse n) s = .next (finish u) ∧ u.line.reports = [o] ∧ takeReport o [] u = handleReport o w
      ∧ w.line.reports = [] ∧ w.line.queue = q ∧ w.line.state = s.line.state ∧ w.cue.owed = s.cue.owed
      ∧ w.cue.current = s.cue.current ∧ w.sync = s.sync ∧ w.strap = s.strap
      ∧ FrameBut [.roster, .cue, .line] s w := by
  have hact := lapseStation_member hx hn hne
  rw [if_pos hhalts] at hact
  have hex := exec_lapse (n := n) hpow
  rw [hact] at hex
  have hline : ((lapsed n s).post (.halt s.flyer 3)).line
      = { s.line with queue := q, nextAge := s.line.nextAge + 1, reports := [o] } := by
    rw [State.post_line]
    exact hoff
  have hf : FrameBut [.roster, .cue, .line] s ((lapsed n s).post (.halt s.flyer 3)) :=
    (frame_lapsed n s).chain (frame_post _ _) (by decide) (by decide)
  have hcue : ((lapsed n s).post (.halt s.flyer 3)).cue = s.cue.slotted s.members n.val none := rfl
  generalize (lapsed n s).post (.halt s.flyer 3) = u at *
  obtain ⟨m, hm⟩ := trackReclaim_eq (u.withLine { u.line with reports := [] })
  have hfw : FrameBut [.roster, .cue, .line] s (trackReclaim (u.withLine { u.line with reports := [] })) := by
    rw [hm]
    exact (hf.chain (ds := [.roster, .cue, .line]) (frame_withLine _ _) (by decide) (by decide)).chain (frame_withCue _ _) (by decide) (by decide)
  have hcw : (trackReclaim (u.withLine { u.line with reports := [] })).cue.owed = s.cue.owed
      ∧ (trackReclaim (u.withLine { u.line with reports := [] })).cue.current = s.cue.current := by
    rw [hm, State.withCue_cue, State.withLine_cue, hcue]
    exact ⟨rfl, rfl⟩
  refine ⟨u, _, hex, by rw [hline], rfl, ?_, ?_, ?_, hcw.1, hcw.2, hfw.block .sync (by decide), hfw.strap, hfw⟩
  · rw [trackReclaim_line]
    rfl
  · rw [trackReclaim_line, State.withLine_line, hline]
  · rw [trackReclaim_line, State.withLine_line, hline]

/-- A report leaves a resting sync unit at rest (02 R30, R34). -/
theorem handleReport_resting (o : OutPost) {s : State} (h : s.sync.phase = .resting) :
    (handleReport o s).sync.phase = .resting ∧ (handleReport o s).sync.retryTimer = s.sync.retryTimer := by
  have hsame : ∀ t : State, t.sync = s.sync → t.sync.phase = .resting ∧ t.sync.retryTimer = s.sync.retryTimer :=
    fun t ht => by rw [ht]; exact ⟨h, rfl⟩
  have hend : (endAnswer s).sync.phase = .resting ∧ (endAnswer s).sync.retryTimer = s.sync.retryTimer := by
    rw [endAnswer_eq]
    cases hw : (s.withSync { s.sync with waitList := s.sync.waitList.drop 1, answer := none }).sync.waitList with
    | nil =>
      rw [serveNext_none hw]
      exact ⟨h, rfl⟩
    | cons q qs =>
      rw [serveNext_cons hw]
      exact ⟨h, rfl⟩
  rcases handleReport_cases o s with he | ⟨hp, he⟩ | he | ⟨sh, sg, r, he⟩ | he | he
  · rw [he]
    exact hsame s rfl
  · rw [h] at hp
    exact absurd hp (by decide)
  · rw [he]
    exact hend
  · rw [he]
    exact hsame _ ((frame_dropMatching sh sg r s).block .sync (by decide))
  · rw [he]
    exact hsame _ ((frame_dropCue .space true s).block .sync (by decide))
  · rw [he]
    exact hsame _ rfl

/-- A resting sync unit stays at rest through the reports of an event (02 R39). -/
theorem drainReports_resting (k : Nat) {s : State} (h : s.sync.phase = .resting) :
    (drainReports k s).sync.phase = .resting ∧ (drainReports k s).sync.retryTimer = s.sync.retryTimer := by
  induction k generalizing s with
  | zero => exact ⟨h, rfl⟩
  | succ k ih =>
    cases hr : s.line.reports with
    | nil =>
      rw [drainReports_nil _ _ hr]
      exact ⟨h, rfl⟩
    | cons o os =>
      have hw : (trackReclaim (s.withLine { s.line with reports := os })).sync = s.sync := by
        rw [trackReclaim_sync]
        rfl
      obtain ⟨h1, h2⟩ := handleReport_resting o (s := trackReclaim (s.withLine { s.line with reports := os }))
        (by rw [hw, h])
      obtain ⟨h3, h4⟩ := ih (s := takeReport o os s) h1
      rw [drainReports_cons k s o os hr]
      exact ⟨h3, h4.trans (h2.trans (by rw [hw]))⟩

/-- The sync unit at the end of an event is the one its reports leave. -/
theorem finish_sync_drained (s : State) : (finish s).sync = (drainReports (reportFuel s.line) s).sync := by
  simp [finish]

end Sys2Proof.Machine

open Sys2Proof Sys2Proof.Machine

/-- Settles O45. -/
theorem lapseEmptiesEntry : Obligations.LapseEmptiesEntry := by
  refine ⟨fun n s hs hfit => ⟨fun hx => ?_, fun x hx => ?_⟩, fun n x s hpow hon hrep hbound hfull hn hne hx hhalts => ?_⟩
  · have hex := exec_lapse (n := n) hs.1.1
    rw [lapseStation_stopped hx] at hex
    exact ⟨_, hex, (FrameBut.refl [] s).finish hs.1.2.1⟩
  · have hex := exec_lapse (n := n) hs.1.1
    by_cases hmine : n.val ∈ s.members ∧ n.val ≠ s.strap
    · obtain ⟨hn, hne⟩ := hmine
      have h0 : Posting s (lapsed n s) [] := Posting.refl hs.1
      rw [lapseStation_member hx hn hne] at hex
      have hp : ∃ u, Posting s u (if s.axis.state = .armed ∨ s.axis.state = .flying ∨ s.axis.state = .stopping
          ∨ s.cue.queue ≠ [] then [.halt s.flyer 3] else []) ∧ exec (.lapse n) s = .next (finish u)
          ∧ u.roster = Roster.put s.roster n RosterEntry.absent ∧ u.cue = s.cue.slotted s.members n.val none
          ∧ FrameBut [.roster, .cue, .line] s u := by
        by_cases hh : s.axis.state = .armed ∨ s.axis.state = .flying ∨ s.axis.state = .stopping ∨ s.cue.queue ≠ []
        · rw [if_pos hh] at hex ⊢
          exact ⟨_, h0.post (.halt s.flyer 3) (by simp), hex, rfl, rfl, (frame_lapsed n s).chain (frame_post _ _) (by decide) (by decide)⟩
        · rw [if_neg hh] at hex ⊢
          exact ⟨_, h0, hex, rfl, rfl, (frame_lapsed n s).over (by decide)⟩
      obtain ⟨u, hp, hex, hr, hc, hf⟩ := hp
      refine ⟨_, hex, ?_, fun m hm => ?_, fun _ _ => ⟨slotSet_of hfit ?_, hp.finish.newPosts hs.2⟩, fun h => ?_,
        hf.finish hp.quiet⟩
      · rw [finish_roster _ hp.quiet, hr, Roster.entry_put_same]
      · rw [finish_roster _ hp.quiet, hr, Roster.entry_put_other _ _ _ _ hm]
      · rw [finish_slots hp.quiet, hc]
        rfl
      · rcases h with h | h
        · exact absurd hn h
        · exact absurd h hne
    · have hno : n.val ∉ s.members ∨ n.val = s.strap := by tauto
      rw [lapseStation_other hx hno] at hex
      have hp := (Posting.refl hs.1).withRoster (Roster.put s.roster n RosterEntry.absent)
      have hf := frame_withRoster s (Roster.put s.roster n RosterEntry.absent)
      refine ⟨_, hex, ?_, fun m hm => ?_, fun h1 h2 => absurd ⟨h1, h2⟩ hmine, fun _ => hf.finish hp.quiet,
        (hf.over (by decide)).finish hp.quiet⟩
      · rw [finish_roster _ hp.quiet, State.withRoster_roster, Roster.entry_put_same]
      · rw [finish_roster _ hp.quiet, State.withRoster_roster, Roster.entry_put_other _ _ _ _ hm]
  · obtain ⟨-, -, hord, -⟩ := hbound
    refine ⟨fun v hv => ?_, fun hnone => ?_⟩
    · intro entered
      have hoff := Line.offer_displacing (p := .halt s.flyer 3) (u := .plain) hon hfull hord hv
      rw [hrep, List.nil_append] at hoff
      obtain ⟨u, w, hex, hur, htake, hwr, hwq, hws, hwo, hwc, hwsy, hwst, hwf⟩ := lapse_full hpow hn hne hx hhalts hoff
      refine ⟨fun y hy => ?_, fun howe => ?_, fun c f m hready hc hph => ?_, fun q r hsync hph hfail => ?_,
        fun q i k b hent hans hwait => ?_⟩
      · have hh : handleReport v w = w := by simp [handleReport, hy]
        rw [hh] at htake
        rw [finish_reported hur (by rw [htake]; exact hwr), htake] at hex
        refine ⟨_, hex, ?_, ?_, ?_, hwf.finish hwr⟩
        · rw [finish_line _ hwr, hwq]
        · rw [finish_line _ hwr, hwr]
        · rw [finish_owed hwr, hwo]
      · have hh : handleReport v w = owe v w := by
          rcases howe with ⟨k, b, h⟩ | ⟨k, h⟩ | ⟨f, g, m, h⟩ | ⟨⟨f, g, m, i, r, h⟩, hu⟩
          · simp [handleReport, h]
          · simp [handleReport, h]
          · simp [handleReport, h]
          · simp [handleReport, h, hu]
        rw [hh] at htake
        have hq : (owe v w).line.reports = [] := hwr
        rw [finish_reported hur (by rw [htake]; exact hq), htake] at hex
        refine ⟨_, hex, ?_, ?_, ?_, (hwf.chain (frame_withCue _ _) (by decide) (by decide)).finish hq⟩
        · rw [finish_line _ hq]
          exact hwq
        · rw [finish_line _ hq]
          exact hwr
        · rw [finish_owed hq, ← hwo]
          rfl
      · have hwc' : w.cue.current = some c := hwc.trans hc
        have hh : handleReport v w = dropArmed c .line true w := by
          rw [← dropMatching_armed .line hwc' hph]
          simp [handleReport, hready]
        have hl := landed_dropArmed c .line true w
        rw [← hh, ← htake] at hl
        exact ⟨_, hex, (finish_landed hur hl).1⟩
      · have hh : handleReport v w = failAttempt w := by simp [handleReport, hsync, hwsy, hph]
        have hlast : failAttempt w = (w.withSync { w.sync.failing with phase := .resting, retryTimer := some 5000 }).notice
            .syncFailed w.strap none (w.sync.responder.getD 0) := failAttempt_last (by rw [hwsy]; omega)
        rw [hh, hlast] at htake
        have hdrain : drainReports (reportFuel u.line) u = drainReports 64 (takeReport v [] u) := by
          rw [reportFuel, hur]
          exact drainReports_cons 64 u v [] hur
        have hrest := drainReports_resting 64 (s := takeReport v [] u) (by rw [htake]; rfl)
        refine ⟨_, hex, ?_, ?_⟩
        · rw [finish_sync_drained, hdrain]
          exact hrest.1
        · rw [finish_sync_drained, hdrain, hrest.2, htake]
          rfl
      · have hh : handleReport v w = endAnswer w := by simp [handleReport, hent, hwsy, hans]
        have he : endAnswer w = w.withSync { s.sync with waitList := [], answer := none } := by
          rw [endAnswer_eq, hwsy, hwait]
          exact serveNext_none rfl
        rw [hh, he] at htake
        have hq : (w.withSync { s.sync with waitList := [], answer := none }).line.reports = [] := hwr
        rw [finish_reported hur (by rw [htake]; exact hq), htake] at hex
        refine ⟨_, hex, ?_, ?_, ?_⟩
        · rw [finish_line _ hq]
          exact hwq
        · rw [finish_sync _ hq]
          rfl
        · rw [finish_sync _ hq]
          rfl
    · have hoff := Line.offer_refused (p := .halt s.flyer 3) (u := .plain) hon hfull
        (victim_none (fun o ho => (hnone o ho).imp_left (fun h => by rw [h]; exact Nat.zero_le _)))
      rw [hrep, List.nil_append] at hoff
      obtain ⟨u, w, hex, hur, htake, hwr, hwq, hws, hwo, hwc, hwsy, hwst, hwf⟩ := lapse_full hpow hn hne hx hhalts hoff
      rw [show handleReport (⟨.halt s.flyer 3, .plain, s.line.nextAge⟩ : OutPost) w = w from rfl] at htake
      rw [finish_reported hur (by rw [htake]; exact hwr), htake] at hex
      refine ⟨_, hex, ?_, ?_, ?_, hwf.finish hwr⟩
      · rw [finish_line _ hwr, hwq]
      · rw [finish_line _ hwr, hwr]
      · rw [finish_owed hwr, hwo]

end

section
/-! ACK, and the rigging lock: LOCK, UNLOCK and MASTER. -/

namespace Sys2Proof.Machine

/-! ### ACK (05 R114, R115) -/

/-- The latch set an ACK leaves, kind by kind. -/
theorem acked_eq (ks : FaultSet) (s : State) :
    acked ks s = ⟨s.axis.faults.estop && !(ks.estop && !s.axis.inputs.estop),
      s.axis.faults.drive && !(ks.drive && !s.axis.inputs.driveFault),
      s.axis.faults.overload
        && !(ks.overload && decide (s.axis.inputs.load ≤ (s.conf.overloadThreshold : Int))),
      s.axis.faults.brake && !(ks.brake && decide (s.axis.inputs.feedback = s.axis.brake)),
      s.axis.faults.follow && !ks.follow, s.axis.faults.slack && !ks.slack,
      s.axis.faults.limit && !(ks.limit && !s.axis.inputs.upper && !s.axis.inputs.lower
        && decide (s.axis.inputs.haul ≤ (s.conf.maxHaul : Int))),
      s.axis.faults.deaf⟩ := by
  have hload : (!decide ((s.conf.overloadThreshold : Int) < s.axis.inputs.load))
      = decide (s.axis.inputs.load ≤ (s.conf.overloadThreshold : Int)) := by
    rw [← decide_not, decide_eq_decide, not_lt]
  have hhaul : (!decide ((s.conf.maxHaul : Int) < s.axis.inputs.haul))
      = decide (s.axis.inputs.haul ≤ (s.conf.maxHaul : Int)) := by
    rw [← decide_not, decide_eq_decide, not_lt]
  have hbrake : (!(s.axis.inputs.feedback != s.axis.brake)) = decide (s.axis.inputs.feedback = s.axis.brake) := by
    rw [bne, Bool.not_not]
    exact (beq_eq_decide _ _)
  simp only [acked, FaultSet.minus, persisting, Bool.not_or, hload, hhaul, hbrake, Bool.and_assoc, Bool.not_true,
    Bool.and_false, Bool.not_false, Bool.and_true]

theorem exec_ack {n : Fin 48} {target : Nat} {ks : FaultSet} {s v : State}
    (hv : ∀ act, deliver n (some (.ack target ks)) act s = finish (act v)) :
    exec (.ack n target ks) s = .next (finish (takeAck target ks v)) := congrArg Host.Outcome.next (hv _)

theorem takeAck_other {target : Nat} {ks : FaultSet} {s : State} (h : target ≠ s.strap) : takeAck target ks s = s :=
  if_neg (fun hh => h hh.1)

theorem takeAck_same {target : Nat} {ks : FaultSet} {s : State} (h : acked ks s = s.axis.faults) :
    takeAck target ks s = s := if_neg (fun hh => hh.2.2 h)

/-- The state once kinds are acknowledged. -/
def lessened (ks : FaultSet) (s : State) : State := (s.withAxis { s.axis with faults := acked ks s }).askPresence

theorem takeAck_left {ks : FaultSet} {s : State} (hx : s.axis.state = .faulted) (h : acked ks s ≠ s.axis.faults)
    (hl : FaultSet.isEmpty (acked ks s) = false) : takeAck s.strap ks s = lessened ks s := by
  refine (if_pos ⟨rfl, hx, h⟩).trans ?_
  exact if_neg (by simp [hl])

theorem takeAck_cleared {ks : FaultSet} {s : State} (hx : s.axis.state = .faulted) (h : acked ks s ≠ s.axis.faults)
    (hl : FaultSet.isEmpty (acked ks s) = true) :
    takeAck s.strap ks s = (lessened ks s).enterAxis
      (if s.lock.copy.isSome then .locked else if s.axis.inputs.haul ≤ (s.conf.groundBand : Int) then .parked
        else .holding) := by
  refine (if_pos ⟨rfl, hx, h⟩).trans ?_
  refine (if_pos hl).trans ?_
  unfold leaveFaulted
  by_cases hlock : s.lock.copy.isSome = true
  · rw [if_pos hlock]
    exact if_pos hlock
  · rw [if_neg hlock]
    exact if_neg hlock

/-! ### LOCK, UNLOCK, MASTER (10 R178 to R181) -/

theorem aloftPending_iff (st : Store) : Store.aloftPending st = true ↔ aloftWritePending st := by
  simp only [Store.aloftPending, aloftWritePending, Bool.or_eq_true, bne_iff_ne]
  refine or_congr_right ?_
  cases st.inFlight with
  | none => simp [MemOp.isAloft]
  | some op => cases op <;> simp [MemOp.isAloft]

theorem lockPending_iff (st : Store) : Store.lockPending st = true ↔ lockWritePending st := by
  simp only [Store.lockPending, lockWritePending, Bool.or_eq_true, bne_iff_ne]
  refine or_congr_right ?_
  cases st.inFlight with
  | none => simp [MemOp.isLock]
  | some op => cases op <;> simp [MemOp.isLock]

/-- A delivery whose one effect is a NOTICE. -/
theorem delivery_notices {n : Fin 48} {p : Option Post} {s v : State} {i : Instr} {act : State → State}
    (hs : CalmOn s) (hv' : Hears n p s v) (hex : exec i s = .next (finish (act v))) {code : NoticeCode} {m : Nat}
    {g : Option Nat} {d : Nat} (hact : act v = v.notice code m g d) :
    ∃ t, exec i s = .next t ∧ newPosts s t = [.notice ⟨code.code, m, s.flyer, g, d⟩] ∧ FrameBut [.roster, .line] s t := by
  rw [hact] at hex
  have hp := hv'.posting.notice code m g d (by simp)
  refine ⟨_, hex, ?_, (hv'.frame.chain (frame_notice _ _ _ _ _) (by decide) (by decide)).finish hp.quiet⟩
  rw [hp.finish.newPosts hs.2, hv'.frame.flyer]
  rfl

theorem takeLockPost_other {m target : Nat} {fl : Byte} {code : Word} {s : State} (h : target ≠ s.strap) :
    takeLockPost m target fl code s = s := if_neg h

section
variable {m target : Nat} {fl : Byte} {code : Word} {s : State} (h : target = s.strap)
include h

theorem takeLockPost_bad (hfl : lockAction fl = .bad) :
    takeLockPost m target fl code s = s.notice .badFlags m none fl.toNat := by
  simp [takeLockPost, h, hfl]

theorem takeLockPost_lock (hfl : lockAction fl = .lock) : takeLockPost m target fl code s = lockTests m code s := by
  simp [takeLockPost, h, hfl]

theorem takeLockPost_unlock (hfl : lockAction fl = .unlock) :
    takeLockPost m target fl code s = unlockTests m fl code (s.lock.copy.getD 0) s := by
  simp [takeLockPost, h, hfl]

theorem takeLockPost_master (hfl : lockAction fl = .master) :
    takeLockPost m target fl code s = unlockTests m fl code s.conf.masterCode s := by
  simp [takeLockPost, h, hfl]

end

/-- The state of a station that has been locked. -/
def lockedState (code : Word) (s : State) : State :=
  (((flush s).withLock ⟨some code⟩).withStore
    { s.store with lockRec := ⟨s.store.lockRec.stored, some code⟩ }).enterAxis .locked

theorem acceptLock_eq (code : Word) (s : State) : acceptLock code s = lockedState code s := by
  unfold acceptLock lockedState State.setLock
  rw [flush_store]

/-- The state of a station whose lock copy is cleared. -/
def unlockedState (s : State) : State :=
  (s.withLock ⟨none⟩).withStore { s.store with lockRec := ⟨s.store.lockRec.stored, none⟩ }

theorem exec_lock {n : Fin 48} {target : Nat} {fl : Byte} {code : Word} {s v : State} {i : Instr}
    (hv : ∀ act, deliver n (some (.lock target fl code)) act s = finish (act v))
    (hi : i = .lock n target fl code ∨ i = .unlock n target fl code ∨ i = .master n target fl code) :
    exec i s = .next (finish (takeLockPost n.val target fl code v)) := by
  rcases hi with rfl | rfl | rfl
  · exact congrArg Host.Outcome.next (hv _)
  · exact congrArg Host.Outcome.next (hv _)
  · exact congrArg Host.Outcome.next (hv _)

end Sys2Proof.Machine

open Sys2Proof Sys2Proof.Machine

/-- Settles O46. -/
theorem ackClearsKinds : Obligations.AckClearsKinds := by
  intro n target ks s hs hx hne
  obtain ⟨v, hv, hv'⟩ := hs.delivers n (some (.ack target ks))
  have hex := exec_ack hv
  have hstrap : v.strap = s.strap := hv'.frame.strap
  refine ⟨fun ht => ?_, fun ht => ?_⟩
  · intro i left
    have hleft : acked ks v = left := by
      rw [acked_eq, hv'.axis, hv'.frame.conf]
    have hvx : v.axis.state = .faulted := by rw [hv'.axis, hx]
    rw [show takeAck target ks v = takeAck v.strap ks v by rw [ht, hstrap]] at hex
    have hp0 : Posting s (lessened ks v) [] := (hv'.posting.withAxis _).askPresence
    have hf0 : FrameBut [.axis, .roster, .line] s (lessened ks v) :=
      (hv'.frame.chain (ds := [.axis, .roster, .line]) (frame_withAxis _ _) (by decide) (by decide)).chain (frame_askPresence _) (by decide) (by decide)
    have hax : (lessened ks v).axis = { s.axis with faults := left } := by
      rw [← hleft, ← hv'.axis]
      rfl
    have hslot : s.line.state = .on → (lessened ks v).line.slot.isSome = true := fun hon =>
      Line.requestPresence_slot (hv'.state.trans hon)
    by_cases hsame : acked ks v = v.axis.faults
    · have hsl : left = s.axis.faults := by rw [← hleft, hsame, hv'.axis]
      rw [takeAck_same hsame] at hex
      have hq := hv'.posting.quiet
      have haxis := finish_axis _ hq
      rw [hv'.axis] at haxis
      refine ⟨_, hex, by rw [haxis, hsl], by rw [haxis], by rw [haxis], ?_, fun h => absurd hsl h,
        (hv'.frame.over (by decide)).finish hq⟩
      rw [haxis, hsl, if_pos hne, hx]
    · cases hempty : FaultSet.isEmpty (acked ks v) with
      | false =>
        rw [takeAck_left hvx hsame hempty] at hex
        have hq := hp0.quiet
        have haxis := (finish_axis _ hq).trans hax
        refine ⟨_, hex, by rw [haxis], by rw [haxis], by rw [haxis], ?_, fun _ hon => ?_, (hf0.over (by decide)).finish hq⟩
        · rw [haxis, if_pos (by rw [← hleft]; exact hempty)]
          exact hx
        · rw [finish_line _ hq]
          exact hslot hon
      | true =>
        rw [takeAck_cleared hvx hsame hempty, hv'.lock, hv'.axis, hv'.frame.conf] at hex
        generalize hb : (if s.lock.copy.isSome = true then AxisState.locked
          else if s.axis.inputs.haul ≤ (s.conf.groundBand : Int) then .parked else .holding) = b at hex
        have hp := hp0.enterAxis b
        have hq := hp.quiet
        have haxis : (finish ((lessened ks v).enterAxis b)).axis = { s.axis with faults := left, state := b } := by
          rw [finish_axis _ hq, enterAxis_axis, hax]
        have hbne : AxisState.faulted ≠ b := by
          rw [← hb]
          split_ifs <;> decide
        refine ⟨_, hex, by rw [haxis], by rw [haxis], by rw [haxis], ?_, fun _ hon => ?_,
          (hf0.chain (frame_enterAxis _ _) (by decide) (by decide)).finish hq⟩
        · rw [haxis, if_neg (by rw [← hleft, hempty]; decide)]
        · rw [finish_line _ hq, enterAxis_line, hax]
          exact lineEntering_slot (by rw [hx]; exact hbne) (hp0.state.trans hon)
  · rw [takeAck_other (by rw [hstrap]; exact ht)] at hex
    exact ⟨_, hex, hv'.frame.finish hv'.posting.quiet⟩

/-- Settles O47. -/
theorem lockActionDecided : Obligations.LockActionDecided := by
  intro n fl code s hs
  have hrec := hs.receives
  obtain ⟨v, hv, hv'⟩ := hrec.delivers n (some (.lock s.strap fl code))
  have hstrap : v.strap = s.strap := hv'.frame.strap
  have hex : exec (.lock n s.strap fl code) s = .next (finish (takeLockPost n.val s.strap fl code v)) :=
    exec_lock hv (.inl rfl)
  have htests : lockAction fl = .lock → takeLockPost n.val s.strap fl code v = lockTests n.val code v :=
    takeLockPost_lock hstrap.symm
  refine ⟨fun hfl => ?_, fun hfl hlock => ?_, fun hfl hlock hx => ?_, fun hfl hlock hx hbusy => ?_,
    fun hfl hlock hx hcopy hpend => ?_, fun target ht => ?_⟩
  · exact delivery_notices hs hv' hex (code := .badFlags) (takeLockPost_bad hstrap.symm hfl)
  · refine delivery_notices hs hv' hex (code := .already) ?_
    rw [htests hfl, lockTests, hv'.lock, if_pos hlock, hv'.axis]
  · refine delivery_notices hs hv' hex (code := .notAtRest) ?_
    rw [htests hfl, lockTests, hv'.lock, if_neg (by simp [hlock]), hv'.axis, if_pos hx]
  · refine delivery_notices hs hv' hex (code := .busy) ?_
    rw [htests hfl, lockTests, hv'.lock, if_neg (by simp [hlock]), hv'.axis, if_neg (not_not.mpr hx), hv'.store, if_pos]
    · rfl
    · rw [← aloftPending_iff] at hbusy
      simpa using hbusy
  · have hact : takeLockPost n.val s.strap fl code v = lockedState code v := by
      rw [htests hfl, lockTests, hv'.lock, if_neg (by simp [hlock]), hv'.axis, if_neg (not_not.mpr hx), hv'.store,
        if_neg, acceptLock_eq]
      rw [← aloftPending_iff] at hpend
      simpa [hcopy] using hpend
    rw [hact] at hex
    have hp0 : Posting s (((flush v).withLock ⟨some code⟩).withStore
        { v.store with lockRec := ⟨v.store.lockRec.stored, some code⟩ }) (flushPosts v) := hv'.posting.flush (by simp)
    have hf0 : FrameBut [.cue, .roster, .line, .lock, .store] s (((flush v).withLock ⟨some code⟩).withStore
        { v.store with lockRec := ⟨v.store.lockRec.stored, some code⟩ }) :=
      ((hv'.frame.chain (ds := [.cue, .roster, .line]) (frame_flush v) (by decide) (by decide)).chain (ds := [.cue, .roster, .line, .lock])
        (frame_withLock _ _) (by decide) (by decide)).chain (frame_withStore _ (by rw [State.withLock_store, flush_store])) (by decide) (by decide)
    have hp := hp0.enterAxis .locked
    have hq : (lockedState code v).line.reports = [] := hp.quiet
    have hax : (flush v).axis = s.axis := (flush_axis v).trans hv'.axis
    have hcue : (lockedState code v).cue = s.cue.flushed := by
      unfold lockedState
      rw [enterAxis_cue, State.withStore_cue, State.withLock_cue, flush_cue, hv'.cue]
      rfl
    have hposts : flushPosts v = if s.cue.queue = [] then [] else
        [.notice ⟨15, s.strap, s.flyer, none, s.cue.queue.length⟩] := by
      unfold flushPosts
      rw [hv'.cue, hv'.frame.strap, hv'.frame.flyer]
      by_cases hq : s.cue.queue = []
      · simp [hq]
      · rw [if_neg (by simpa using hq), if_neg hq]
        rfl
    refine ⟨_, hex, ?_, ?_, ?_, ?_, ?_, ?_, ?_, (hp.finish.newPosts hs.2).trans hposts, ?_,
      (hf0.chain (frame_enterAxis _ _) (by decide) (by decide)).finish hq⟩
    · rw [finish_lock _ hq, lockedState, enterAxis_eq]
      rfl
    · rw [finish_lockRec hq, lockedState, enterAxis_store, storeEntering_of_ne _ _ (by decide), ← hv'.store]
      rfl
    · rw [finish_axis _ hq, lockedState, enterAxis_axis, State.withStore_axis, State.withLock_axis, hax]
    · rw [finish_queue hq, hcue]
      rfl
    · rw [finish_current hq, hcue]
      rfl
    · rw [finish_held hq, hcue]
      rfl
    · rw [finish_slots hq, hcue]
      rfl
    · rw [finish_line _ hq, lockedState, enterAxis_line, State.withStore_axis, State.withLock_axis, hax, hx]
      exact lineEntering_slot (by decide) (hp0.state.trans hs.2)
  · obtain ⟨w, hw, hw'⟩ := hrec.delivers n (some (.lock target fl code))
    have hex : exec (.lock n target fl code) s = .next (finish (takeLockPost n.val target fl code w)) :=
      exec_lock hw (.inl rfl)
    rw [takeLockPost_other (by rw [hw'.frame.strap]; exact ht)] at hex
    exact ⟨_, hex, hw'.frame.finish hw'.posting.quiet⟩

/-- Settles O48. -/
theorem unlockActionsDecided : Obligations.UnlockActionsDecided := by
  intro n i fl code wanted s hs hi
  obtain ⟨v, hv, hv'⟩ := hs.receives.delivers n (some (.lock s.strap fl code))
  have hstrap : v.strap = s.strap := hv'.frame.strap
  have hex : exec i s = .next (finish (takeLockPost n.val s.strap fl code v)) := by
    refine exec_lock hv ?_
    rcases hi with ⟨h, -⟩ | ⟨h, -⟩
    · exact .inr (.inl h)
    · exact .inr (.inr h)
  have hact : ∃ w, takeLockPost n.val s.strap fl code v = unlockTests n.val fl code w v
      ∧ (s.lock.copy.isSome = true → w = wanted) := by
    rcases hi with ⟨-, hfl, hw⟩ | ⟨-, hfl, hw⟩
    · refine ⟨_, takeLockPost_unlock hstrap.symm hfl, fun hsome => ?_⟩
      obtain ⟨c, hc⟩ := Option.isSome_iff_exists.mp hsome
      rw [hv'.lock, hc, hw c hc]
      rfl
    · exact ⟨_, takeLockPost_master hstrap.symm hfl, fun _ => by rw [hv'.frame.conf, hw]⟩
  obtain ⟨w, hact, hwanted⟩ := hact
  have hnone : s.lock.copy.isSome = true → ¬v.lock.copy.isNone = true := by
    intro h
    rw [hv'.lock]
    simpa [Option.isSome_iff_ne_none] using h
  refine ⟨fun hlock => ?_, fun hlock hpend => ?_, fun hlock hpend hcode => ?_, fun hlock hpend hcode => ?_⟩
  · refine delivery_notices hs hv' hex (code := .already) ?_
    rw [hact, unlockTests, if_pos (by rw [hv'.lock, hlock]; rfl), hv'.axis]
  · refine delivery_notices hs hv' hex (code := .busy) ?_
    rw [hact, unlockTests, if_neg (hnone hlock), if_pos (by rw [hv'.store]; exact (lockPending_iff _).mpr hpend)]
    rfl
  · refine delivery_notices hs hv' hex (code := .wrongCode) ?_
    rw [hact, unlockTests, if_neg (hnone hlock),
      if_neg (by rw [hv'.store]; exact fun h => hpend ((lockPending_iff _).mp h)), hwanted hlock, if_pos hcode]
  · have haccept : takeLockPost n.val s.strap fl code v = unlockAxis (unlockedState v) := by
      rw [hact, unlockTests, if_neg (hnone hlock),
        if_neg (by rw [hv'.store]; exact fun h => hpend ((lockPending_iff _).mp h)), hwanted hlock,
        if_neg (not_not.mpr hcode)]
      rfl
    rw [haccept] at hex
    have hp0 : Posting s (unlockedState v) [] := hv'.posting
    have hf0 : FrameBut [.lock, .store, .roster, .line] s (unlockedState v) :=
      (hv'.frame.chain (ds := [.lock, .roster, .line]) (frame_withLock _ _) (by decide) (by decide)).chain (frame_withStore _ rfl) (by decide) (by decide)
    have hax : (unlockedState v).axis = s.axis := hf0.block .axis (by decide)
    by_cases hx : s.axis.state = .locked
    · have hu : unlockAxis (unlockedState v)
          = ((unlockedState v).withAxis { Axis.command s.axis .set with demand := 0 }).enterAxis .parked := by
        unfold unlockAxis
        rw [hax, if_pos hx]
      rw [hu] at hex
      have hp := (hp0.withAxis { Axis.command s.axis .set with demand := 0 }).enterAxis .parked
      have hq := hp.quiet
      have haxis := (finish_axis _ hq).trans (enterAxis_axis _ _)
      rw [State.withAxis_axis] at haxis
      have hstore : ((((unlockedState v).withAxis { Axis.command s.axis .set with demand := 0 }).enterAxis .parked).store)
          = (unlockedState v).store.aimed .clear := by
        rw [enterAxis_store, State.withAxis_axis, State.withAxis_store]
        exact storeEntering_parked _ (by rw [show ({ Axis.command s.axis .set with demand := 0 } : Axis).state = _ from
          Axis.command_state s.axis .set, hx]; decide)
      refine ⟨_, hex, ?_, ?_, hp.finish.newPosts hs.2, fun _ => ⟨?_, ?_, ?_, ?_, ?_⟩, fun h => absurd hx h,
        ((hf0.chain (ds := [.lock, .store, .axis, .roster, .line]) (frame_withAxis _ _) (by decide) (by decide)).chain
          (frame_enterAxis _ _) (by decide) (by decide)).finish hq⟩
      · rw [finish_lock _ hq, enterAxis_eq]
        rfl
      · rw [finish_lockRec hq, hstore]
        rfl
      · rw [haxis]
      · rw [haxis]
        exact Axis.command_brake _ _
      · rw [haxis]
      · rw [finish_aloft hq, hstore]
        rfl
      · rw [finish_line _ hq, enterAxis_line, State.withAxis_axis]
        exact lineEntering_slot (by rw [show ({ Axis.command s.axis .set with demand := 0 } : Axis).state = _ from
          Axis.command_state s.axis .set, hx]; decide) (hp0.state.trans hs.2)
    · have hu : unlockAxis (unlockedState v) = unlockedState v := if_neg (by rw [hax]; exact hx)
      rw [hu] at hex
      have hq := hp0.quiet
      refine ⟨_, hex, ?_, ?_, hp0.finish.newPosts hs.2, fun h => absurd h hx, fun _ => ?_, (hf0.over (by decide)).finish hq⟩
      · rw [finish_lock _ hq]
        rfl
      · rw [finish_lockRec hq]
        rfl
      · rw [finish_axis _ hq, hax]

end

section
/-! What the memory port does at an event's end, and events and deliveries that change the program store alone. -/

namespace Sys2Proof.Machine

/-! ### The fields the port leaves -/

section
variable {a b : Store} (h : Store.sameBut a b)
include h

theorem Store.sameBut.verified : b.verified = a.verified := by
  have e := congrArg Store.verified h.eq
  exact e
theorem Store.sameBut.lastVerified : b.lastVerified = a.lastVerified := by
  have e := congrArg Store.lastVerified h.eq
  exact e
theorem Store.sameBut.area : b.area = a.area := by
  have e := congrArg Store.area h.eq
  exact e
theorem Store.sameBut.index : b.index = a.index := by
  have e := congrArg Store.index h.eq
  exact e
theorem Store.sameBut.buffer : b.buffer = a.buffer := by
  have e := congrArg Store.buffer h.eq
  exact e
theorem Store.sameBut.commit : b.commit = a.commit := by
  have e := congrArg Store.commit h.eq
  exact e
theorem Store.sameBut.verify : b.verify = a.verify := by
  have e := congrArg Store.verify h.eq
  exact e
theorem Store.sameBut.swapPending : b.swapPending = a.swapPending := by
  have e := congrArg Store.swapPending h.eq
  exact e
theorem Store.sameBut.active : b.active = a.active := by
  have e := congrArg Store.active h.eq
  exact e

end

/-! ### Requests and the grant (09 R167, R176) -/

/-- Record writes are asked for behind what waits. -/
def Store.AsksWrites (st u : Store) : Prop :=
  ∃ rs, (∀ r ∈ rs, r.category = 1) ∧ u = { st with waiting := st.waiting ++ rs }

theorem Store.AsksWrites.refl (st : Store) : Store.AsksWrites st st := ⟨[], by simp, by simp⟩

theorem Store.AsksWrites.request (st : Store) {r : MemRequest} (h : r.category = 1) :
    Store.AsksWrites st (st.request r) := ⟨[r], by simpa using h, rfl⟩

theorem Store.AsksWrites.trans {st u v : Store} (h1 : Store.AsksWrites st u) (h2 : Store.AsksWrites u v) :
    Store.AsksWrites st v := by
  obtain ⟨rs, hrs, rfl⟩ := h1
  obtain ⟨ss, hss, rfl⟩ := h2
  refine ⟨rs ++ ss, fun r hr => ?_, by simp⟩
  rcases List.mem_append.mp hr with h | h
  · exact hrs r h
  · exact hss r h

theorem Store.asksWrites_aloft (st : Store) : Store.AsksWrites st (Store.requestAloft st) := by
  unfold Store.requestAloft
  split
  · exact .request st rfl
  · exact .refl st

theorem Store.asksWrites_lock (st : Store) : Store.AsksWrites st (Store.requestLock st) := by
  unfold Store.requestLock
  split
  · exact .request st rfl
  · exact .refl st

theorem Store.asksWrites_flag (st : Store) : Store.AsksWrites st (Store.requestFlag st) := by
  unfold Store.requestFlag
  split
  · exact .request st rfl
  · exact .refl st

/-- What serving the port makes of a store: the other fields stand, a request waits until it is granted, a busy port grants none, and no verify slice is asked for. -/
structure Served (st u : Store) : Prop where
  same : Store.sameBut st u
  asked : ∀ r ∈ st.waiting, r ∈ u.waiting ∨ u.inFlight = some (Store.opOf st r)
  busy : st.inFlight.isSome = true → u.inFlight = st.inFlight ∧ st.waiting ⊆ u.waiting
  verify : ∀ i, MemRequest.verifySlice i ∈ u.waiting → MemRequest.verifySlice i ∈ st.waiting

/-- The grant after record writes were asked for. -/
theorem Store.AsksWrites.grant {st u : Store} (h : Store.AsksWrites st u) : Served st (Store.grant u) := by
  obtain ⟨rs, hrs, rfl⟩ := h
  have hverify : ∀ i, MemRequest.verifySlice i ∈ st.waiting ++ rs → MemRequest.verifySlice i ∈ st.waiting := by
    intro i hi
    rcases List.mem_append.mp hi with h | h
    · exact h
    · exact absurd (hrs _ h) (by simp [MemRequest.category])
  have hstays : Served st { st with waiting := st.waiting ++ rs } :=
    ⟨rfl, fun r hr => .inl (List.mem_append_left _ hr), fun _ => ⟨rfl, List.subset_append_left _ _⟩, hverify⟩
  unfold Store.grant
  cases hf : st.inFlight with
  | some op => simpa [hf] using hstays
  | none =>
    cases hn : nextRequest (st.waiting ++ rs) with
    | none => simpa [hf, hn] using hstays
    | some q =>
      simp only
      refine ⟨rfl, fun r hr => ?_, fun h => absurd h (by simp [hf]), fun i hi => hverify i (List.mem_of_mem_erase hi)⟩
      by_cases hq : r = q
      · right
        rw [hq]
        cases q <;> rfl
      · exact .inl ((List.mem_erase_of_ne hq).mpr (List.mem_append_left _ hr))

theorem Store.servePort_served (st : Store) : Served st (Store.servePort st) :=
  ((Store.asksWrites_aloft st).trans ((Store.asksWrites_lock _).trans (Store.asksWrites_flag _))).grant

theorem finish_served (u : State) (h : u.line.reports = []) : Served u.store (finish u).store := by
  rw [finish_store u h]
  exact Store.servePort_served u.store

/-! ### Changes of the program store alone -/

/-- A delivery that changes the program store alone, its words of memory standing. -/
theorem delivery_stores {n : Fin 48} {p : Option Post} {s v : State} {i : Instr} {act : State → State} {st : Store}
    (hs : CalmOn s) (hv' : Hears n p s v) (hex : exec i s = .next (finish (act v))) (hact : act v = v.withStore st)
    (hm : st.mem = s.store.mem) :
    ∃ t, exec i s = .next t ∧ newPosts s t = [] ∧ Served st t.store ∧ t.store.mem = s.store.mem
      ∧ FrameBut [.store, .roster, .line] s t := by
  rw [hact] at hex
  have hp : Posting s (v.withStore st) [] := hv'.posting.withStore st
  have hserved : Served st (finish (v.withStore st)).store := finish_served _ hp.quiet
  refine ⟨_, hex, hp.finish.newPosts hs.2, hserved, hserved.same.mem.trans hm,
    (hv'.frame.chain (ds := [.store, .roster, .line]) (frame_withStore v (hm.trans ?_)) (by decide) (by decide)).finish hp.quiet⟩
  rw [hv'.store]

/-- A delivery that changes nothing beyond the roster. -/
theorem delivery_ignored {n : Fin 48} {p : Option Post} {s v : State} {i : Instr} {act : State → State}
    (hv' : Hears n p s v) (hex : exec i s = .next (finish (act v))) (hact : act v = v) :
    ∃ t, exec i s = .next t ∧ FrameBut [.roster, .line] s t := by
  rw [hact] at hex
  exact ⟨_, hex, hv'.frame.finish hv'.posting.quiet⟩

/-- An event that changes the program store alone, its words of memory standing. -/
theorem event_stores {s : State} {i : Instr} {act : State → State} {st : Store} (hs : Calm s)
    (hex : exec i s = .next (event act s)) (hact : act s = s.withStore st) (hm : st.mem = s.store.mem) :
    ∃ t, exec i s = .next t ∧ Posting s t [] ∧ Served st t.store ∧ t.store.mem = s.store.mem
      ∧ FrameBut [.store] s t := by
  rw [event_calm act hs, hact] at hex
  have hp : Posting s (s.withStore st) [] := (Posting.refl hs).withStore st
  have hserved : Served st (finish (s.withStore st)).store := finish_served _ hp.quiet
  exact ⟨_, hex, hp.finish, hserved, hserved.same.mem.trans hm, (frame_withStore s hm).finish hp.quiet⟩

/-- An event that changes the program store, words of memory among it, and uses `free` free values. -/
theorem event_writes {s : State} {i : Instr} {act : State → State} {st : Store} {free : Nat} (hs : Calm s)
    (hex : exec i s = .next (event act s)) (hact : act s = (s.withStore st).withFreeCount free) :
    ∃ t, exec i s = .next t ∧ Served st t.store ∧ t.store.mem = st.mem ∧ t.freeCount = free
      ∧ FrameBut [.store, .memory, .free] s t := by
  rw [event_calm act hs, hact] at hex
  have hp : Posting s ((s.withStore st).withFreeCount free) [] := (Posting.refl hs).withStore st
  have hserved : Served st (finish ((s.withStore st).withFreeCount free)).store := finish_served _ hp.quiet
  refine ⟨_, hex, hserved, hserved.same.mem, finish_freeCount _ hp.quiet, FrameBut.finish ?_ hp.quiet⟩
  exact .of ⟨rfl, rfl, rfl, rfl⟩ fun b hb => by cases b <;> trivial

/-- A frame without the block of free values, which stands. -/
theorem FrameBut.keepsFree {s t : State} (h : FrameBut [.store, .memory, .free] s t) (hf : t.freeCount = s.freeCount) :
    FrameBut [.store, .memory] s t := by
  refine ⟨h.power, h.strap, h.cfg, h.pending, fun b hb => ?_⟩
  by_cases hfree : b = .free
  · rw [hfree]
    exact hf
  · exact h.block b (by simp only [List.mem_cons, List.not_mem_nil, or_false] at hb ⊢; tauto)

/-! ### SWAP and VERIFY (09 R171, R173) -/

theorem scopeHits_iff (target strap : Nat) : scopeHits target strap = true ↔ target = strap ∨ target = 255 := by
  simp [scopeHits, absentByte]

section
variable {m target : Nat} {s : State}

theorem takeSwap_other (h : ¬(target = s.strap ∨ target = 255)) : takeSwap m target s = s :=
  if_neg (fun hh => h ((scopeHits_iff _ _).mp hh))

variable (h : target = s.strap ∨ target = 255)
include h

theorem takeSwap_forced (hp : s.store.pinForced = true) :
    takeSwap m target s = s.notice .forced m none (bankShow s.store.working.words) :=
  (if_pos ((scopeHits_iff _ _).mpr h)).trans (if_pos hp)

theorem takeSwap_busy (hp : s.store.pinForced = false)
    (hb : s.store.swapPending.isSome = true ∨ s.store.copy.isSome = true) :
    takeSwap m target s = s.notice .busy m none 18 :=
  (if_pos ((scopeHits_iff _ _).mpr h)).trans ((if_neg (by simp [hp])).trans (if_pos (by simpa [Store.swapping] using hb)))

theorem takeSwap_idle (hp : s.store.pinForced = false) (hb : s.store.swapPending = none) (hc : s.store.copy = none) :
    takeSwap m target s = if s.store.verified then s.withStore { s.store with swapPending := some m }
      else s.notice .unverified m none s.store.lastVerified := by
  refine (if_pos ((scopeHits_iff _ _).mpr h)).trans ((if_neg (by simp [hp])).trans
    ((if_neg (by simp [hb, hc, Store.swapping])).trans ?_))
  cases s.store.verified <;> rfl

end

theorem Store.requestCommit_kept {st : Store} (h : st.commit.isSome = true ∨ st.buffer = []) :
    Store.requestCommit st = st := by
  refine if_pos ?_
  rcases h with h | h
  · simp [h]
  · simp [h]

theorem Store.requestCommit_made {st : Store} (hc : st.commit = none) (hb : st.buffer ≠ []) :
    Store.requestCommit st
      = { st with commit := some st.buffer, buffer := [], waiting := st.waiting ++ [.commit] } := by
  refine (if_neg ?_).trans (Store.request_eq _ _)
  simp [hc, hb]

/-- A commit moves the buffer, and asks for the port behind what waits. -/
theorem Store.requestCommit_eq (st : Store) : ∃ c b w,
    Store.requestCommit st = { st with commit := c, buffer := b, waiting := st.waiting ++ w } := by
  unfold Store.requestCommit
  split
  · exact ⟨st.commit, st.buffer, [], by simp⟩
  · exact ⟨some st.buffer, [], [.commit], rfl⟩

/-- The store when a verify begins. -/
theorem Store.beginVerify_eq (st : Store) : ∃ w, Store.beginVerify st
    = { st with commit := st.requestCommit.commit, buffer := st.requestCommit.buffer, verified := false,
                verify := some [], waiting := st.waiting ++ w } ∧ MemRequest.verifySlice 0 ∈ w := by
  obtain ⟨c, b, w, h⟩ := Store.requestCommit_eq st
  unfold Store.beginVerify
  rw [h]
  exact ⟨w ++ [.verifySlice 0], by simp [Store.request_eq], by simp⟩

theorem takeVerify_other {m target : Nat} {s : State} (h : target ≠ s.strap) : takeVerify m target s = s := if_neg h

theorem takeVerify_busy {m target : Nat} {s : State} (h : target = s.strap)
    (hb : s.store.copy.isSome = true ∨ s.store.verify.isSome = true) :
    takeVerify m target s = s.notice .busy m none 19 :=
  (if_pos h).trans (if_pos (by simpa [Store.swapping] using hb))

theorem takeVerify_begins {m target : Nat} {s : State} (h : target = s.strap) (hc : s.store.copy = none)
    (hv : s.store.verify = none) : takeVerify m target s = s.withStore s.store.beginVerify :=
  (if_pos h).trans (if_neg (by simp [Store.swapping, hc, hv]))

end Sys2Proof.Machine

open Sys2Proof Sys2Proof.Machine

/-- Settles O49. -/
theorem swapAndVerifyAreDecided : Obligations.SwapAndVerifyAreDecided := by
  refine ⟨fun n target s hs => ?_, fun n target s hs => ?_⟩
  · obtain ⟨v, hv, hv'⟩ := hs.receives.delivers n (some (.swap target))
    have hex : exec (.swap n target) s = .next (finish (takeSwap n.val target v)) := congrArg Host.Outcome.next (hv _)
    have hstrap : v.strap = s.strap := hv'.frame.strap
    refine ⟨fun ht => ⟨fun hp => ?_, fun hp hb => ?_, fun hp hw hc hver => ?_, fun hp hw hc hver => ?_⟩,
      fun h1 h2 => ?_⟩
    · exact delivery_notices hs hv' hex (code := .forced)
        ((takeSwap_forced (by rw [hstrap]; exact ht) (by rw [hv'.store, hp])).trans (by rw [hv'.store]))
    · exact delivery_notices hs hv' hex (code := .busy)
        (takeSwap_busy (by rw [hstrap]; exact ht) (by rw [hv'.store, hp]) (by rw [hv'.store]; exact hb))
    · refine delivery_notices hs hv' hex (code := .unverified)
        ((takeSwap_idle (by rw [hstrap]; exact ht) (by rw [hv'.store, hp]) (by rw [hv'.store, hw])
          (by rw [hv'.store, hc])).trans ?_)
      rw [hv'.store, hver, if_neg (by decide)]
    · obtain ⟨t, hex, hnew, hserved, -, hfr⟩ := delivery_stores hs hv' hex
        (st := { s.store with swapPending := some n.val })
        ((takeSwap_idle (by rw [hstrap]; exact ht) (by rw [hv'.store, hp]) (by rw [hv'.store, hw])
          (by rw [hv'.store, hc])).trans (by rw [hv'.store, hver, if_pos rfl])) rfl
      exact ⟨t, hex, hnew, hserved.same, hfr⟩
    · exact delivery_ignored hv' hex (takeSwap_other (by rw [hstrap]; exact fun h => h.elim h1 h2))
  · obtain ⟨v, hv, hv'⟩ := hs.receives.delivers n (some (.verify target))
    have hex : exec (.verify n target) s = .next (finish (takeVerify n.val target v)) :=
      congrArg Host.Outcome.next (hv _)
    have hstrap : v.strap = s.strap := hv'.frame.strap
    refine ⟨fun ht hb => ?_, fun ht hc hver => ?_, fun ht => ?_⟩
    · exact delivery_notices hs hv' hex (code := .busy)
        (takeVerify_busy (by rw [hstrap]; exact ht) (by rw [hv'.store]; exact hb))
    · obtain ⟨w, hbegin, hslice⟩ := Store.beginVerify_eq s.store
      have hact : takeVerify n.val target v = v.withStore s.store.beginVerify := by
        rw [takeVerify_begins (by rw [hstrap, ht]) (by rw [hv'.store, hc]) (by rw [hv'.store, hver]), hv'.store]
      rw [hbegin] at hact
      obtain ⟨t, hex, hnew, hserved, hmem, hfr⟩ := delivery_stores hs hv' hex hact rfl
      have hin := List.mem_append_right s.store.waiting hslice
      refine ⟨t, hex, hnew, hserved.same.verified, hserved.same.verify, hmem, hserved.same.working,
        fun hcom hbuf => ⟨?_, ?_⟩, fun hkept => ⟨?_, ?_⟩, hserved.asked _ hin, fun hbusy => ?_, hfr⟩
      · exact hserved.same.commit.trans (by rw [Store.requestCommit_made hcom hbuf])
      · exact hserved.same.buffer.trans (by rw [Store.requestCommit_made hcom hbuf])
      · exact hserved.same.commit.trans (by rw [Store.requestCommit_kept hkept])
      · exact hserved.same.buffer.trans (by rw [Store.requestCommit_kept hkept])
      · obtain ⟨hfl, hsub⟩ := hserved.busy hbusy
        exact ⟨hfl, hsub hin⟩
    · exact delivery_ignored hv' hex (takeVerify_other (by rw [hstrap]; exact ht))

end

section
/-! LOAD: what it is turned away for, and what a taken one does. -/

namespace Sys2Proof.Machine

/-! ### Deliveries that change the program store and post -/

/-- A delivery that changes the program store, its words of memory standing, and posts `ps`. -/
theorem delivery_stores_posts {n : Fin 48} {p : Option Post} {s v : State} {i : Instr} {act : State → State}
    {st : Store} {ps : List Post} (hs : CalmOn s) (hv' : Hears n p s v) (hex : exec i s = .next (finish (act v)))
    (hp : Posting s (act v) ps) (hst : (act v).store = st) (hm : st.mem = s.store.mem)
    (hf : FrameBut [.store, .line] v (act v)) :
    ∃ t, exec i s = .next t ∧ newPosts s t = ps ∧ Served st t.store ∧ t.store.mem = s.store.mem
      ∧ FrameBut [.store, .roster, .line] s t := by
  subst hst
  have hserved := finish_served (act v) hp.quiet
  exact ⟨_, hex, hp.finish.newPosts hs.2, hserved, hserved.same.mem.trans hm,
    (hv'.frame.chain (ds := [.store, .roster, .line]) hf (by decide) (by decide)).finish hp.quiet⟩

/-! ### The three posts of a LOAD (09 R168) -/

/-- Each LOAD is a delivery that acts by the same rules. -/
theorem exec_load {n : Fin 48} {target : Nat} {i : Instr}
    (hi : (∃ a k, a ≤ 2 ∧ i = .loadAim n target a k)
      ∨ (∃ ws, 1 ≤ ws.length ∧ ws.length ≤ 6 ∧ i = .loadData n target ws) ∨ i = .loadCommit n target) :
    ∃ p op, ∀ s, exec i s = .next (deliver n p (takeLoad n.val target op) s) := by
  rcases hi with ⟨a, k, ha, rfl⟩ | ⟨ws, h1, h6, rfl⟩ | rfl
  · have harea : ∃ area, areaOfCode a = some area := by
      interval_cases a
      · exact ⟨_, rfl⟩
      · exact ⟨_, rfl⟩
      · exact ⟨_, rfl⟩
    obtain ⟨area, harea⟩ := harea
    refine ⟨some (.loadAim target a k), aimCursor area k, fun s => ?_⟩
    have hex : exec (.loadAim n target a k) s = execLoadAim n target a k s := rfl
    rw [hex, execLoadAim, harea]
  · refine ⟨some (.loadData target ws), placeData n.val ws, fun s => ?_⟩
    have hex : exec (.loadData n target ws) s = execLoadData n target ws s := rfl
    rw [hex, execLoadData, if_pos (by simp [dataFits, h1, h6])]
  · exact ⟨some (.loadCommit target), commitBuffer, fun s => rfl⟩

section
variable {m target : Nat} {op : State → State} {s : State}

theorem takeLoad_other (h : target ≠ s.strap) : takeLoad m target op s = s := if_neg h

theorem takeLoad_busy (h : target = s.strap) (hb : s.store.copy.isSome = true ∨ s.store.commit.isSome = true) :
    takeLoad m target op s = s.notice .busy m none 21 :=
  (if_pos h).trans (if_pos (by simpa [Store.swapping] using hb))

theorem takeLoad_taken (h : target = s.strap) (hc : s.store.copy = none) (hm : s.store.commit = none) :
    takeLoad m target op s = op (abandonVerify s) :=
  (if_pos h).trans (if_neg (by simp [Store.swapping, hc, hm]))

theorem abandonVerify_none (h : s.store.verify = none) : abandonVerify s = s := by simp [abandonVerify, h]

end

/-- The store once the verify that has read `ws` is abandoned (09 R172). -/
def Store.abandoned (st : Store) (ws : List Word) : Store :=
  { st with verify := none, waiting := st.waiting.filter (fun r => !r.isVerify),
            inFlight := st.inFlight.map MemOp.discard, lastVerified := bankShow ws }

theorem abandonVerify_running {s : State} {ws : List Word} (h : s.store.verify = some ws) :
    abandonVerify s = (s.withStore (s.store.abandoned ws)).post (.verified (bankShow ws) 3 255) := by
  simp only [abandonVerify, h]
  rfl

/-! ### The words of a DATA (09 R169, R170) -/

/-- The store with `cells` come together at its buffer, which held fewer than 16 words and no commit in flight: the first 16 go to a commit once they are there. -/
def Store.filled (st : Store) (cells : List MemCell) (index : Nat) : Store :=
  { st with index := index
            buffer := if cells.length < 16 then cells else cells.drop 16
            commit := if cells.length < 16 then none else some (cells.take 16)
            waiting := if cells.length < 16 then st.waiting else st.waiting ++ [.commit] }

theorem Store.filled_self {st : Store} (hb : st.buffer.length < 16) (hc : st.commit = none) :
    st.filled st.buffer st.index = st := by
  simp only [Store.filled, if_pos hb, ← hc]

/-- A word beyond the area's end. -/
theorem placeWord_over {st : Store} (h : ¬st.index < st.area.size) (k : Nat) (w : Word) :
    placeWord (st, k) w = (st, k + 1) := if_neg h

/-- The address the cursor names (09 R168). -/
def Store.cursor (st : Store) (index : Nat) : Nat := st.shadow.base + st.area.offset + index

/-- A word within the area joins the cells. -/
theorem placeWord_fits {st : Store} {cells : List MemCell} {i : Nat} (hi : i < st.area.size)
    (hl : cells.length < 31) (k : Nat) (w : Word) :
    placeWord (st.filled cells i, k) w = (st.filled (cells ++ [(st.cursor i, w)]) (i + 1), k) := by
  refine (if_pos hi).trans (congrArg (Prod.mk · k) ?_)
  rcases lt_trichotomy cells.length 15 with h | h | h
  · have h1 : cells.length < 16 := by omega
    have h2 : (cells ++ [(st.cursor i, w)]).length < 16 := by simp; omega
    simp only [Store.filled, if_pos h1, if_pos h2]
    exact if_neg (by simp [Config.maxBuffer]; omega)
  · have h1 : cells.length < 16 := by omega
    have h2 : ¬(cells ++ [(st.cursor i, w)]).length < 16 := by simp [h]
    have hdrop : (cells ++ [(st.cursor i, w)]).drop 16 = [] := List.drop_eq_nil_of_le (by simp [h])
    have htake : (cells ++ [(st.cursor i, w)]).take 16 = cells ++ [(st.cursor i, w)] :=
      List.take_of_length_le (by simp [h])
    simp only [Store.filled, if_pos h1, if_neg h2, hdrop, htake]
    refine (if_pos (by simp [Config.maxBuffer, h])).trans ?_
    exact Store.requestCommit_made rfl (by simp)
  · have h1 : ¬cells.length < 16 := by omega
    have h2 : ¬(cells ++ [(st.cursor i, w)]).length < 16 := by simp; omega
    have hdrop : (cells ++ [(st.cursor i, w)]).drop 16 = cells.drop 16 ++ [(st.cursor i, w)] :=
      List.drop_append_of_le_length (by omega)
    have htake : (cells ++ [(st.cursor i, w)]).take 16 = cells.take 16 := List.take_append_of_le_length (by omega)
    simp only [Store.filled, if_neg h1, if_neg h2, hdrop, htake]
    exact if_neg (by simp [Config.maxBuffer]; omega)

/-- The cells of the words of a DATA that lie within the area. -/
def Store.fitting (st : Store) (index : Nat) (ws : List Word) : List MemCell :=
  (List.range (min ws.length (st.area.size - index))).map (fun j => (st.cursor index + j, ws.getD j 0))

theorem Store.fitting_none {st : Store} {i : Nat} (h : ¬i < st.area.size) (ws : List Word) : st.fitting i ws = [] := by
  simp [Store.fitting, show st.area.size - i = 0 by omega]

theorem Store.fitting_cons {st : Store} {i : Nat} (h : i < st.area.size) (w : Word) (ws : List Word) :
    st.fitting i (w :: ws) = (st.cursor i, w) :: st.fitting (i + 1) ws := by
  have hmin : min (w :: ws).length (st.area.size - i) = min ws.length (st.area.size - (i + 1)) + 1 := by
    rw [List.length_cons]
    omega
  unfold Store.fitting
  rw [hmin, List.range_succ_eq_map, List.map_cons, List.map_map]
  refine congrArg₂ _ (by simp) (List.map_congr_left fun j _ => ?_)
  simp [Store.cursor, Nat.add_assoc, Nat.add_comm 1 j]

/-- The words of a DATA in turn: those within the area join the cells, the others are counted. -/
theorem placeWords_eq {st : Store} (ws : List Word) (cells : List MemCell) (i k : Nat)
    (hl : cells.length + ws.length < 32) :
    ws.foldl placeWord (st.filled cells i, k)
      = (st.filled (cells ++ st.fitting i ws) (i + min ws.length (st.area.size - i)),
          k + (ws.length - min ws.length (st.area.size - i))) := by
  induction ws generalizing cells i k with
  | nil => simp [Store.fitting]
  | cons w ws ih =>
    rw [List.length_cons] at hl
    rw [List.foldl_cons]
    by_cases hi : i < st.area.size
    · rw [placeWord_fits hi (by omega), ih _ _ _ (by simp; omega), Store.fitting_cons hi, List.append_assoc,
        List.singleton_append, List.length_cons]
      refine congrArg₂ _ (congrArg (Store.filled st _) ?_) ?_
      · omega
      · omega
    · rw [placeWord_over hi, ih _ _ _ (by omega), Store.fitting_none hi, Store.fitting_none hi, List.length_cons]
      refine congrArg₂ _ (congrArg (Store.filled st _) ?_) ?_
      · omega
      · omega

/-- How many words of a DATA lie within the area. -/
def Store.fit (st : Store) (ws : List Word) : Nat := min ws.length (st.area.size - st.index)

/-- The store once a DATA's words are placed. -/
def Store.withData (st : Store) (ws : List Word) : Store :=
  Store.filled { st with verified := false } (st.buffer ++ st.fitting st.index ws) (st.index + st.fit ws)

theorem placeData_eq {m : Nat} {ws : List Word} {s : State} (hb : s.store.buffer.length < 16)
    (hc : s.store.commit = none) (h6 : ws.length ≤ 6) :
    placeData m ws s = if ws.length - s.store.fit ws = 0 then s.withStore (s.store.withData ws)
      else (s.withStore (s.store.withData ws)).notice .overrun m none (ws.length - s.store.fit ws) := by
  have hself : Store.filled { s.store with verified := false } s.store.buffer s.store.index
      = { s.store with verified := false } := Store.filled_self hb hc
  have hfold := placeWords_eq (st := { s.store with verified := false }) ws s.store.buffer s.store.index 0 (by omega)
  rw [hself, Nat.zero_add] at hfold
  unfold placeData
  rw [hfold]
  rfl

theorem shadowOf_eq (s : State) : s.store.shadow = shadowOf s := by
  unfold Store.shadow shadowOf
  cases s.store.active with
  | none => rfl
  | some bank => cases bank <;> rfl

end Sys2Proof.Machine

open Sys2Proof Sys2Proof.Machine

/-- Settles O50. -/
theorem loadIsTurnedAwayOrAbandonsVerify : Obligations.LoadIsTurnedAwayOrAbandonsVerify := by
  refine ⟨fun n target i s hs hi => ?_, fun n ws s hs hc hcom hver hbuf => ?_⟩
  · obtain ⟨p, op, hload⟩ := exec_load hi
    obtain ⟨v, hv, hv'⟩ := hs.receives.delivers n p
    have hex : exec i s = .next (finish (takeLoad n.val target op v)) := by rw [hload, hv]
    have hstrap : v.strap = s.strap := hv'.frame.strap
    refine ⟨fun ht hb => ?_, fun ht => ?_⟩
    · exact delivery_notices hs hv' hex (code := .busy)
        (takeLoad_busy (by rw [hstrap]; exact ht) (by rw [hv'.store]; exact hb))
    · exact delivery_ignored hv' hex (takeLoad_other (by rw [hstrap]; exact ht))
  · obtain ⟨v, hv, hv'⟩ := hs.receives.delivers n (some (.loadCommit s.strap))
    have hex : exec (.loadCommit n s.strap) s = .next (finish (takeLoad n.val s.strap commitBuffer v)) :=
      congrArg Host.Outcome.next (hv _)
    have hact : takeLoad n.val s.strap commitBuffer v
        = (v.withStore (s.store.abandoned ws)).post (.verified (bankShow ws) 3 255) := by
      rw [takeLoad_taken hv'.frame.strap.symm (by rw [hv'.store, hc]) (by rw [hv'.store, hcom]),
        abandonVerify_running (ws := ws) (by rw [hv'.store, hver]), hv'.store]
      exact congrArg (State.withStore _) (Store.requestCommit_kept (.inr hbuf))
    obtain ⟨t, hex, hnew, hserved, -, hfr⟩ := delivery_stores_posts hs hv' hex (st := s.store.abandoned ws)
      (ps := [.verified (bankShow ws) 3 255])
      (by rw [hact]; exact (hv'.posting.withStore _).post _ (by simp)) (by rw [hact]; rfl) rfl
      (by rw [hact]; exact (frame_withStore _ (by rw [hv'.store]; rfl)).chain (frame_post _ _) (by decide) (by decide))
    refine ⟨t, hex, hserved.same.verify, fun i hi => ?_, fun i d hfl => ?_, hnew, hserved.same.lastVerified,
      hserved.same.verified, hfr⟩
    · have hw := hserved.verify i hi
      simp [Store.abandoned, MemRequest.isVerify] at hw
    · have hfl' : (s.store.abandoned ws).inFlight = some (.verifySlice i true) := by
        simp [Store.abandoned, hfl, MemOp.discard]
      exact (hserved.busy (by rw [hfl']; rfl)).1.trans hfl'

/-- Settles O51. -/
theorem loadIsTaken : Obligations.LoadIsTaken := by
  intro n s hs hc hcom hver
  have htake : ∀ {p op v}, Hears n p s v → takeLoad n.val s.strap op v = op v := fun {p op v} hv' => by
    rw [takeLoad_taken hv'.frame.strap.symm (by rw [hv'.store, hc]) (by rw [hv'.store, hcom]),
      abandonVerify_none (by rw [hv'.store, hver])]
  obtain ⟨c, b, w, hreq⟩ := Store.requestCommit_eq s.store
  have hmade : c = (if s.store.buffer = [] then none else some s.store.buffer) ∧ b = [] := by
    have hc' := congrArg Store.commit hreq
    have hb' := congrArg Store.buffer hreq
    by_cases hb : s.store.buffer = []
    · rw [Store.requestCommit_kept (.inr hb)] at hc' hb'
      exact ⟨by rw [if_pos hb, ← hcom]; exact hc'.symm, hb'.symm.trans hb⟩
    · rw [Store.requestCommit_made hcom hb] at hc' hb'
      exact ⟨by rw [if_neg hb]; exact hc'.symm, hb'.symm⟩
  obtain ⟨rfl, rfl⟩ := hmade
  refine ⟨fun a k area harea => ?_, ?_, fun ws h1 h6 hb => ?_⟩
  · obtain ⟨v, hv, hv'⟩ := hs.receives.delivers n (some (.loadAim s.strap a k))
    have hex : exec (.loadAim n s.strap a k) s = .next (finish (takeLoad n.val s.strap (aimCursor area k) v)) := by
      have hex : exec (.loadAim n s.strap a k) s = execLoadAim n s.strap a k s := rfl
      rw [hex, execLoadAim, harea]
      exact congrArg Host.Outcome.next (hv _)
    obtain ⟨t, hex, hnew, hserved, hmem, hfr⟩ := delivery_stores hs hv' hex
      (st := { s.store with area := area, index := k, buffer := [], waiting := s.store.waiting ++ w,
                            commit := if s.store.buffer = [] then none else some s.store.buffer })
      ((htake hv').trans (by rw [aimCursor, hv'.store, hreq])) rfl
    exact ⟨t, hex, hnew, hserved.same.area, hserved.same.index, hserved.same.buffer, hserved.same.commit, hmem,
      hserved.same.verified, hfr⟩
  · obtain ⟨v, hv, hv'⟩ := hs.receives.delivers n (some (.loadCommit s.strap))
    have hex : exec (.loadCommit n s.strap) s = .next (finish (takeLoad n.val s.strap commitBuffer v)) :=
      congrArg Host.Outcome.next (hv _)
    obtain ⟨t, hex, hnew, hserved, hmem, hfr⟩ := delivery_stores hs hv' hex
      (st := { s.store with buffer := [], waiting := s.store.waiting ++ w,
                            commit := if s.store.buffer = [] then none else some s.store.buffer })
      ((htake hv').trans (by rw [commitBuffer, hv'.store, hreq])) rfl
    exact ⟨t, hex, hnew, hserved.same.area, hserved.same.index, hserved.same.buffer, hserved.same.commit, hmem, hfr⟩
  · intro fit base cells
    obtain ⟨v, hv, hv'⟩ := hs.receives.delivers n (some (.loadData s.strap ws))
    have hex : exec (.loadData n s.strap ws) s = .next (finish (takeLoad n.val s.strap (placeData n.val ws) v)) := by
      have hex : exec (.loadData n s.strap ws) s = execLoadData n s.strap ws s := rfl
      rw [hex, execLoadData, if_pos (by simp [dataFits, h1, h6])]
      exact congrArg Host.Outcome.next (hv _)
    have hcells : s.store.withData ws = Store.filled { s.store with verified := false } cells (s.store.index + fit) := by
      have hcur : s.store.cursor s.store.index = base := by rw [Store.cursor, shadowOf_eq]
      unfold Store.withData Store.fitting
      rw [hcur]
      rfl
    have hact := placeData_eq (m := n.val) (ws := ws) (s := v) (by rw [hv'.store]; exact hb)
      (by rw [hv'.store]; exact hcom) h6
    rw [hv'.store, hcells, show s.store.fit ws = fit from rfl] at hact
    generalize hst : Store.filled { s.store with verified := false } cells (s.store.index + fit) = st at hact
    have hmem : st.mem = s.store.mem := by rw [← hst]; rfl
    have hfs : FrameBut [.store] v (v.withStore st) := frame_withStore v (by rw [hmem, hv'.store])
    have hps : Posting s (v.withStore st) [] := hv'.posting.withStore st
    have hfit : fit ≤ ws.length := Nat.min_le_left _ _
    obtain ⟨t, hex, hnew, hserved, hmem, hfr⟩ := delivery_stores_posts hs hv' hex (st := st)
      (ps := if fit = ws.length then [] else [.notice ⟨22, n.val, s.flyer, none, ws.length - fit⟩])
      (by
        rw [htake hv', hact]
        by_cases hall : fit = ws.length
        · rw [if_pos (by omega), if_pos hall]
          exact hps
        · rw [if_neg (by omega), if_neg hall, ← hv'.frame.flyer]
          exact hps.notice .overrun _ _ _ (by simp))
      (by
        rw [htake hv', hact]
        split <;> rfl)
      hmem
      (by
        rw [htake hv', hact]
        split
        · exact hfs.over (by decide)
        · exact hfs.chain (frame_notice _ _ _ _ _) (by decide) (by decide))
    refine ⟨t, hex, ?_, fun hlt => ⟨?_, ?_⟩, fun hge => ⟨?_, ?_, ?_⟩, ?_, ?_, hnew, hmem, ?_, hfr⟩
    · rw [hserved.same.verified, ← hst]
      rfl
    · rw [hserved.same.buffer, ← hst]
      exact if_pos hlt
    · rw [hserved.same.commit, ← hst]
      exact if_pos hlt
    · rw [hserved.same.buffer, ← hst]
      exact if_neg (by omega)
    · rw [hserved.same.commit, ← hst]
      exact if_neg (by omega)
    · have hcommit : st.commit = some (cells.take 16) := by
        rw [← hst]
        exact if_neg (by omega)
      have hasked := hserved.asked .commit (by
        rw [← hst]
        simp only [Store.filled, if_neg (show ¬cells.length < 16 by omega)]
        simp)
      rwa [Store.opOf, hcommit, Option.getD_some] at hasked
    · rw [hserved.same.index, ← hst]
      rfl
    · rw [hserved.same.area, ← hst]
      rfl
    · rw [hserved.same.working, ← hst]
      rfl

end

section
/-! The completions of memory operations. -/

namespace Sys2Proof.Machine

/-! ### Words of memory after a write (09 R163) -/

/-- A word that one of several writes to different addresses addresses. -/
theorem Memory.read_writeAll_mem {cells : List MemCell} {m : Memory} {c : MemCell} (hm : Memory.wf m = true)
    (hd : (cells.map (·.1)).Nodup) (hc : c ∈ cells) : Memory.read (Memory.writeAll m cells) c.1 = c.2 := by
  induction cells generalizing m with
  | nil => cases hc
  | cons d ds ih =>
    obtain ⟨hnew, hd⟩ := List.nodup_cons.mp hd
    have hwf := Memory.write_wf m d.1 d.2 hm
    rcases List.mem_cons.mp hc with rfl | hmem
    · refine (Memory.read_writeAll_other ds _ _ hwf fun e he h => hnew ?_).trans ?_
      · exact List.mem_map.mpr ⟨e, he, h⟩
      · rw [Memory.read_write m _ _ _ hm, if_pos rfl]
    · exact ih hwf hd hmem

theorem aloftCells_addresses (flyer free : Nat) (v : AloftRecord) :
    (aloftCells flyer free v).map (·.1) = [65, 66, 67, 68, 69] := by cases v <;> rfl

theorem lockCells_addresses (free : Nat) (v : Option Word) : (lockCells free v).map (·.1) = [70, 71] := by
  cases v <;> rfl

/-- Cells at given addresses address no word elsewhere. -/
theorem cells_ne_of_addresses {cells : List MemCell} {as : List Nat} (h : cells.map (·.1) = as) {a : Nat}
    (ha : a ∉ as) : ∀ c ∈ cells, c.1 ≠ a := fun _ hc e => ha (h ▸ e ▸ List.mem_map_of_mem hc)

theorem Word.ofBytes_lo (h l : Nat) : (Word.ofBytes h l).lo = l % 256 := by
  simp only [Word.lo, Word.ofBytes, BitVec.toNat_ofNat]
  omega

section
variable {m : Memory} (hm : Memory.wf m = true) (flyer free : Nat)
include hm

theorem read_aloftCells {v : AloftRecord} {c : MemCell} (hc : c ∈ aloftCells flyer free v) :
    Memory.read (Memory.writeAll m (aloftCells flyer free v)) c.1 = c.2 :=
  Memory.read_writeAll_mem hm (by rw [aloftCells_addresses]; decide) hc

theorem read_lockCells {v : Option Word} {c : MemCell} (hc : c ∈ lockCells free v) :
    Memory.read (Memory.writeAll m (lockCells free v)) c.1 = c.2 :=
  Memory.read_writeAll_mem hm (by rw [lockCells_addresses]; decide) hc

theorem read_besideAloft (v : AloftRecord) {a : Nat} (ha : a < 65 ∨ 69 < a) :
    Memory.read (Memory.writeAll m (aloftCells flyer free v)) a = Memory.read m a :=
  Memory.read_writeAll_other _ _ _ hm (cells_ne_of_addresses (aloftCells_addresses flyer free v) (by simp; omega))

theorem read_besideLock (v : Option Word) {a : Nat} (ha : a < 70 ∨ 71 < a) :
    Memory.read (Memory.writeAll m (lockCells free v)) a = Memory.read m a :=
  Memory.read_writeAll_other _ _ _ hm (cells_ne_of_addresses (lockCells_addresses free v) (by simp; omega))

/-- The words of a clear aloft record do not read as set. -/
theorem readAloft_cleared : readAloft (Memory.writeAll m (aloftCells flyer free .clear)) = .clear := by
  have hread := read_aloftCells hm flyer free (v := .clear) (List.mem_cons_self ..)
  refine if_neg ?_
  rw [hread]
  dsimp only
  have hbyte := (Config.clearAloftLow free).isLt
  rw [Word.ofBytes_lo]
  split
  · decide
  · omega

/-- A lock record reads as it was written. -/
theorem readLock_written (v : Option Word) : readLock (Memory.writeAll m (lockCells free v)) = v := by
  unfold readLock
  cases v with
  | some code =>
    have h70 := read_lockCells hm free (v := some code) (c := (70, 1)) (by simp [lockCells])
    have h71 := read_lockCells hm free (v := some code) (c := (71, code)) (by simp [lockCells])
    rw [if_pos h70, h71]
  | none =>
    have h70 := read_lockCells hm free (v := none) (List.mem_cons_self ..)
    refine if_neg ?_
    rw [h70]
    dsimp only
    split
    · decide
    · assumption

end

/-! ### The completions (09 R163, R170, R175, R176) -/

/-- The store once the aloft record's write has finished. -/
def Store.aloftWritten (st : Store) (flyer free : Nat) (v : AloftRecord) : Store :=
  { st with inFlight := none, mem := Memory.writeAll st.mem (aloftCells flyer free v), aloft := ⟨v, st.aloft.target⟩ }

/-- The store once the lock record's write has finished. -/
def Store.lockWritten (st : Store) (free : Nat) (v : Option Word) : Store :=
  { st with inFlight := none, mem := Memory.writeAll st.mem (lockCells free v), lockRec := ⟨v, st.lockRec.target⟩ }

section
variable {s : State}

theorem recordWritten_aloft {v : AloftRecord} (h : s.store.inFlight = some (.aloftWrite v)) :
    recordWritten s = (s.withStore (s.store.aloftWritten s.flyer s.freeCount v)).withFreeCount
      (if v = .clear then s.freeCount + 1 else s.freeCount) := by
  simp only [recordWritten, h]
  rfl

theorem recordWritten_lock {v : Option Word} (h : s.store.inFlight = some (.lockWrite v)) :
    recordWritten s = (s.withStore (s.store.lockWritten s.freeCount v)).withFreeCount
      (if v = none then s.freeCount + 1 else s.freeCount) := by
  simp only [recordWritten, h]
  rfl

theorem swapFlagWritten_of {v : Word} (h : s.store.inFlight = some (.flagWrite v)) :
    swapFlagWritten s = s.withStore (s.store.flagWritten v) := by simp only [swapFlagWritten, h]

theorem commitDone_of {cells : List MemCell} (h : s.store.inFlight = some (.commit cells)) :
    commitDone s = s.withStore (s.store.commitWritten cells) := by simp only [commitDone, h]

end

/-- The store when the commit's words are in the shadow and no verify runs, or before the words that entered the buffer are committed. -/
def Store.landed (st : Store) (cells : List MemCell) : Store :=
  { st with inFlight := none, commit := none, mem := Memory.writeAll st.mem cells }

theorem Store.commitWritten_eq (st : Store) (cells : List MemCell) :
    st.commitWritten cells
      = if st.verify.isSome then Store.requestCommit (st.landed cells) else st.landed cells := rfl

/-- An event that changes the program store, words of memory among it. -/
theorem event_flags {s : State} {i : Instr} {act : State → State} {st : Store} (hs : Calm s)
    (hex : exec i s = .next (event act s)) (hact : act s = s.withStore st) :
    ∃ t, exec i s = .next t ∧ Served st t.store ∧ t.store.mem = st.mem ∧ FrameBut [.store, .memory] s t := by
  obtain ⟨t, hex, hserved, hmem, hfree, hfr⟩ := event_writes (st := st) (free := s.freeCount) hs hex hact
  exact ⟨t, hex, hserved, hmem, hfr.keepsFree hfree⟩

end Sys2Proof.Machine

open Sys2Proof Sys2Proof.Machine

/-- Settles O52. -/
theorem writesComplete : Obligations.WritesComplete := by
  intro s hs hwf
  have hrec : exec .recordWriteCompletion s = .next (event recordWritten s) := rfl
  have hflag : exec .swapFlagWriteCompletion s = .next (event swapFlagWritten s) := rfl
  have hcommit : exec .loadCommitCompletion s = .next (event commitDone s) := rfl
  refine ⟨fun f k b0 b1 b2 hfl => ?_, fun hfl => ?_, fun v hfl => ?_, fun v hfl => ?_, fun cells hfl hver => ?_,
    fun cells ws hfl hver => ?_⟩
  · obtain ⟨t, hex, hserved, hmem, hfree, hfr⟩ := event_writes hs hrec (recordWritten_aloft hfl)
    have hcell : ∀ {c : MemCell}, c ∈ aloftCells s.flyer s.freeCount (.set f k b0 b1 b2) →
        Memory.read t.store.mem c.1 = c.2 := fun hc => by
      rw [hmem]
      exact read_aloftCells hwf _ _ hc
    refine ⟨t, hex, congrArg Record.stored hserved.same.aloft, (congrArg Record.target hserved.same.aloft).trans rfl,
      hcell (c := (65, Word.ofBytes f 1)) (by simp [aloftCells]), hcell (c := (66, k)) (by simp [aloftCells]),
      hcell (c := (67, b0)) (by simp [aloftCells]), hcell (c := (68, b1)) (by simp [aloftCells]),
      hcell (c := (69, b2)) (by simp [aloftCells]), fun a ha => ?_, hfr.keepsFree (hfree.trans (if_neg (by simp)))⟩
    rw [hmem]
    exact read_besideAloft hwf _ _ _ ha
  · obtain ⟨t, hex, hserved, hmem, hfree, hfr⟩ := event_writes hs hrec (recordWritten_aloft hfl)
    refine ⟨t, hex, congrArg Record.stored hserved.same.aloft, ?_, fun a ha => ?_, hfr⟩
    · rw [hmem]
      exact readAloft_cleared hwf _ _
    · rw [hmem]
      exact read_besideAloft hwf _ _ _ ha
  · obtain ⟨t, hex, hserved, hmem, hfree, hfr⟩ := event_writes hs hrec (recordWritten_lock hfl)
    refine ⟨t, hex, congrArg Record.stored hserved.same.lockRec, (congrArg Record.target hserved.same.lockRec).trans rfl, ?_,
      fun a ha => ?_, hfr⟩
    · rw [hmem]
      exact readLock_written hwf _ _
    · rw [hmem]
      exact read_besideLock hwf _ _ ha
  · obtain ⟨t, hex, hserved, hmem, hfr⟩ := event_flags hs hflag (swapFlagWritten_of hfl)
    refine ⟨t, hex, congrArg Record.stored hserved.same.flag, hserved.same.active, ?_, fun a ha => ?_,
      hserved.same.working, hserved.asked (.copySlice 0) ?_, hfr⟩
    · rw [hmem]
      exact (Memory.read_write _ 64 64 v hwf).trans (if_pos rfl)
    · rw [hmem]
      exact (Memory.read_write _ 64 a v hwf).trans (if_neg ha)
    · exact List.mem_append_right _ (List.mem_singleton_self _)
  · obtain ⟨t, hex, hserved, hmem, hfr⟩ := event_flags (st := s.store.landed cells) hs hcommit
      ((commitDone_of hfl).trans (by rw [Store.commitWritten_eq, hver]; rfl))
    refine ⟨t, hex, hserved.same.commit, hmem, fun a ha => ?_, hserved.same.buffer, hfr⟩
    rw [hmem]
    exact Memory.read_writeAll_other _ _ _ hwf ha
  · have hact : commitDone s = s.withStore (Store.requestCommit (s.store.landed cells)) :=
      (commitDone_of hfl).trans (by rw [Store.commitWritten_eq, hver]; rfl)
    obtain ⟨t, hex, hserved, hmem, hfr⟩ := event_flags hs hcommit hact
    have hwrites : t.store.mem = Memory.writeAll s.store.mem cells := by
      obtain ⟨c, b, w, hreq⟩ := Store.requestCommit_eq (s.store.landed cells)
      rw [hmem, hreq]
      rfl
    have hother : ∀ a, (∀ c ∈ cells, c.1 ≠ a) → Memory.read t.store.mem a = Memory.read s.store.mem a := fun a ha => by
      rw [hwrites]
      exact Memory.read_writeAll_other _ _ _ hwf ha
    by_cases hb : s.store.buffer = []
    · rw [Store.requestCommit_kept (st := s.store.landed cells) (.inr hb)] at hserved
      exact ⟨t, hex, hwrites, hother, hserved.same.verify.trans hver, hserved.same.buffer.trans hb,
        fun _ => hserved.same.commit, fun h => absurd hb h, hfr⟩
    · rw [Store.requestCommit_made (st := s.store.landed cells) rfl hb] at hserved
      exact ⟨t, hex, hwrites, hother, hserved.same.verify.trans hver, hserved.same.buffer, fun h => absurd h hb,
        fun _ => ⟨hserved.same.commit, hserved.asked .commit (by simp)⟩, hfr⟩

end

section
/-! The completions of slices. -/

namespace Sys2Proof.Machine

/-! ### A slice of the copy (09 R167, R175) -/

theorem copySliceRead_of {s : State} {i : Nat} (h : s.store.inFlight = some (.copySlice i)) :
    copySliceRead s = s.withStore (s.store.copyRead s.conf i) := by simp only [copySliceRead, h]

section
variable {st : Store} {ws : List Word} {i : Nat} (h : st.copy = some ws) (c : StationConfig)
include h

/-- The words of a slice before the last join the copy, and the next slice is asked for. -/
theorem Store.copyRead_next (hi : i < 38) :
    st.copyRead c i = { st with inFlight := none, copy := some (ws ++ readSlice st.mem (st.active.getD .a) i)
                                waiting := st.waiting ++ [.copySlice (i + 1)] } := by
  simp only [Store.copyRead, h]
  exact if_pos (by simp [Config.sliceCount]; omega)

theorem Store.copyRead_last :
    st.copyRead c 38 = Store.endSwap { st with inFlight := none } c (ws ++ readSlice st.mem (st.active.getD .a) 38) := by
  simp only [Store.copyRead, h]
  exact if_neg (by simp [Config.sliceCount])

end

/-! ### A slice of the verify (09 R167, R171, R172) -/

theorem verifySliceDone_discarded {s : State} {i : Nat} (h : s.store.inFlight = some (.verifySlice i true)) :
    verifySliceDone s = s.withStore { s.store with inFlight := none } := by
  simp only [verifySliceDone, h, if_pos]

theorem verifySliceDone_read {s : State} {i : Nat} (h : s.store.inFlight = some (.verifySlice i false)) :
    verifySliceDone s = verifyRead i s := by
  simp only [verifySliceDone, h]
  exact if_neg (by decide)

/-- The store once its verify has read all words, `words`, with the result `r`. -/
def Store.verifyEnded (st : Store) (words : List Word) (r : VerifyResult) : Store :=
  { st with inFlight := none, verify := none, verified := r.valid, lastVerified := bankShow words }

section
variable {s : State} {ws : List Word} {i : Nat} (h : s.store.verify = some ws)
include h

theorem verifyRead_next (hi : i < 38) :
    verifyRead i s = s.withStore { s.store with inFlight := none, verify := some (ws ++ readSlice s.store.mem s.store.shadow i)
                                                waiting := s.store.waiting ++ [.verifySlice (i + 1)] } := by
  simp only [verifyRead, h]
  exact if_pos (by simp [Config.sliceCount]; omega)

theorem verifyRead_last {words : List Word} (hw : words = ws ++ readSlice s.store.mem s.store.shadow 38)
    {r : VerifyResult} (hr : r = validateBank s.conf.maxHaul s.conf.speedLimit words) :
    verifyRead 38 s = (s.withStore (s.store.verifyEnded words r)).post
      (.verified (bankShow words) r.code r.segmentByte) := by
  subst hw hr
  simp only [verifyRead, h]
  exact if_neg (by simp [Config.sliceCount])

end

end Sys2Proof.Machine

open Sys2Proof Sys2Proof.Machine

/-- Settles O53. -/
theorem slicesComplete : Obligations.SlicesComplete := by
  intro i ws s hs
  have hcopy : exec .bankCopySliceCompletion s = .next (event copySliceRead s) := rfl
  have hverify : exec .verifySliceCompletion s = .next (event verifySliceDone s) := rfl
  refine ⟨fun hfl hc => ⟨fun hi => ?_, fun hi => ?_⟩, fun hfl hver => ⟨fun hi => ?_, fun hi => ?_⟩, fun hfl => ?_⟩
  · obtain ⟨t, hex, -, hserved, hmem, hfr⟩ := event_stores hs.1 hcopy
      ((copySliceRead_of hfl).trans (congrArg s.withStore (Store.copyRead_next hc _ hi))) rfl
    exact ⟨t, hex, hserved.same.copy, hserved.asked (.copySlice (i + 1)) (by simp), hserved.same.working, hmem, hfr⟩
  · subst hi
    obtain ⟨t, hex, -, hserved, hmem, hfr⟩ := event_stores hs.1 hcopy
      ((copySliceRead_of hfl).trans (congrArg s.withStore (Store.copyRead_last hc _))) rfl
    refine ⟨t, hex, hserved.same.copy, hserved.same.swapPending, congrArg WorkingCopy.words hserved.same.working, ?_,
      hserved.same.verified, hserved.same.lastVerified, hmem, hfr⟩
    rw [hserved.same.working]
    exact VerifyResult.valid_iff _
  · obtain ⟨t, hex, -, hserved, hmem, hfr⟩ := event_stores hs.1 hverify
      ((verifySliceDone_read hfl).trans (verifyRead_next hver hi)) rfl
    refine ⟨t, hex, ?_, hserved.asked (.verifySlice (i + 1)) (by simp), hserved.same.verified, hmem, hfr⟩
    rw [hserved.same.verify, shadowOf_eq]
  · subst hi
    intro read r
    have hact : verifySliceDone s = (s.withStore (s.store.verifyEnded read r)).post
        (.verified (bankShow read) r.code r.segmentByte) :=
      (verifySliceDone_read hfl).trans (verifyRead_last hver (by rw [shadowOf_eq]) rfl)
    clear_value r read
    rw [event_calm _ hs.1, hact] at hverify
    have hp : Posting s ((s.withStore (s.store.verifyEnded read r)).post
        (.verified (bankShow read) r.code r.segmentByte)) [.verified (bankShow read) r.code r.segmentByte] :=
      ((Posting.refl hs.1).withStore _).post _ (by simp)
    have hfs : FrameBut [.store] s (s.withStore (s.store.verifyEnded read r)) := frame_withStore s rfl
    have hserved := finish_served _ hp.quiet
    rw [show ((s.withStore (s.store.verifyEnded read r)).post (.verified (bankShow read) r.code r.segmentByte)).store
      = s.store.verifyEnded read r from State.withLine_store _ _] at hserved
    refine ⟨_, hverify, hserved.same.verify, ?_, hserved.same.lastVerified, (hp.finish.newPosts hs.2).trans ?_,
      hserved.same.working, hserved.same.mem, (hfs.chain (frame_post _ _) (by decide) (by decide)).finish hp.quiet⟩
    · rw [hserved.same.verified]
      exact VerifyResult.valid_iff _
    · cases r <;> rfl
  · obtain ⟨t, hex, hp, hserved, hmem, hfr⟩ := event_stores hs.1 hverify (verifySliceDone_discarded hfl) rfl
    exact ⟨t, hex, hserved.same.verify, hp.newPosts hs.2, hmem, hfr⟩

end

section
/-! The steps that are due at once. -/

namespace Sys2Proof.Machine

/-! ### A resync (02 R40) -/

/-- The state a resync begins from, before the choice. -/
def resyncing (s : State) : State := (s.withReg { s.reg with state := .syncing }).withSync s.sync.endRound

theorem beginResync_of {s : State} (hx : AxisState.atRest s.axis.state = true) (hr : s.reg.state = .stale)
    (hl : s.line.state = .on) : beginResync s = choice (resyncing s) := by
  have hset : setRegister .syncing (s.withSync s.sync.endRound) = resyncing s := by
    simp [setRegister, hr]
    rfl
  unfold beginResync
  rw [if_pos (by simp [resyncDue, hx, hr, hl]), hset]

theorem choice_begins {s : State} {r : Nat} (ho : choiceOpen s = true) (hr : nextResponder s = some r) :
    choice s = beginAttempt r s := by simp [choice, ho, hr]

/-- With no responder before, the next one is the lowest peer reporting CURRENT. -/
theorem nextResponder_first {s : State} (hn : s.sync.responder = none) {m : Nat} (hm : reportsCurrent s m) :
    ∃ r, nextResponder s = some r ∧ r ≤ m := by
  have hmem := mem_currentPeers.mpr hm
  have hsorted := currentPeers_sorted s
  have hdef : nextResponder s = (currentPeers s).head? := by
    unfold nextResponder
    rw [hn]
    rfl
  cases hl : currentPeers s with
  | nil => exact absurd (hl ▸ hmem) List.not_mem_nil
  | cons r rs =>
    refine ⟨r, by rw [hdef, hl]; rfl, ?_⟩
    rw [hl] at hmem hsorted
    rcases List.mem_cons.mp hmem with rfl | h
    · exact Nat.le_refl _
    · exact Nat.le_of_lt ((List.pairwise_cons.mp hsorted).1 m h)

/-! ### The re-claim (03 R74) -/

theorem postReclaim_of {s : State} {h : Held} (hh : s.cue.held = some h) (howes : owesReclaim s = true)
    (hm : s.cue.reclaim = .due) :
    postReclaim s = (s.withCue { s.cue with reclaim := .posted }).post (.claim h.key h.box) := by
  simp [postReclaim, hh, howes, hm]

/-! ### The begin of a swap (09 R174) -/

theorem beginSwap_of {s : State} {x : Nat} (hp : s.store.swapPending = some x) (hr : swapReady s = true) :
    beginSwap s = if s.store.verified then s.withStore s.store.enterSwapping
      else (s.withStore { s.store with swapPending := none }).notice .unverified x none s.store.lastVerified := by
  simp [beginSwap, hp, hr]

theorem flagOfBank_eq (bank : Bank) : flagOfBank bank = if bank = .b then 1 else 0 := by cases bank <;> rfl

end Sys2Proof.Machine

open Sys2Proof Sys2Proof.Machine

/-- Settles O54. -/
theorem dueStepsAct : Obligations.DueStepsAct := by
  intro s hs hx
  refine ⟨fun hr hb => ?_, fun h hlead hpark hcur hh hkey hmark => ?_, fun x hp hqueue hver hcopy => ?_⟩
  · have hex : exec .resync s = .next (event beginResync s) := rfl
    rw [event_calm _ hs.1, beginResync_of hx hr hs.2] at hex
    have hw : Posting s (resyncing s) [] := ((Posting.refl hs.1).withReg _).withSync _
    have hfr : FrameBut [.reg, .sync] s (resyncing s) := (frame_withReg s _).chain (frame_withSync _ _) (by decide) (by decide)
    have hopen : choiceOpen (resyncing s) = true := (choiceOpen_iff _).mpr ⟨rfl, rfl, hs.2, .inl hb⟩
    obtain ⟨qs, -, -, hp⟩ := hw.choice (by simp)
    have hq := hp.quiet
    have hf : FrameBut [.reg, .sync, .roster, .line] s (choice (resyncing s)) := hfr.chain (frame_choice _) (by decide) (by decide)
    refine ⟨_, hex, ?_⟩
    rw [finish_sync _ hq, finish_reg _ hq]
    have hcases : (choice (resyncing s)).sync.failed = 0
        ∧ ((choice (resyncing s)).sync.phase = .idle ∨ (choice (resyncing s)).sync.phase = .posting)
        ∧ ((choice (resyncing s)).reg = { s.reg with state := .syncing }
          ∨ (choice (resyncing s)).reg = { s.reg with state := .current, table := [], generation := 0 }) := by
      rcases choice_cases (resyncing s) with ⟨-, r, -, hc⟩ | ⟨-, -, -, -, hc⟩ | hc
      · rw [hc]
        exact ⟨rfl, .inr rfl, .inl rfl⟩
      · rw [hc, startRigAlone_of (s := resyncing s) (by simp [resyncing])]
        exact ⟨rfl, .inl rfl, .inr rfl⟩
      · rw [hc]
        exact ⟨rfl, .inl rfl, .inl rfl⟩
    refine ⟨hcases.1, hcases.2.1, hcases.2.2, fun m hm hne hpres hseen hreg => ?_, hf.finish hq⟩
    obtain ⟨r, hnext, hle⟩ := nextResponder_first (s := resyncing s) rfl (m := m) ⟨hm, hne, hpres, hseen, hreg⟩
    have hc := choice_begins hopen hnext
    have hp' := hw.beginAttempt (by simp) r
    rw [hc]
    exact ⟨rfl, rfl, r, rfl, hle, hp'.finish.newPosts hs.2⟩
  · have hex : exec .reClaim s = .next (event postReclaim s) := rfl
    have hplace : s.axis.state = .poised ∨ s.axis.state = .holding ∨ s.axis.state = .recovery := by
      cases hst : s.axis.state <;> simp_all [AxisState.atRest]
    have howes : owesReclaim s = true := by
      simp only [owesReclaim, hlead, hcur, hh, hkey, Bool.and_eq_true, Bool.or_eq_true, beq_iff_eq, or_assoc]
      simpa using hplace
    rw [event_calm _ hs.1, postReclaim_of hh howes hmark] at hex
    have hp := ((Posting.refl hs.1).withCue { s.cue with reclaim := .posted }).post (.claim h.key h.box) (by simp)
    have hq := hp.quiet
    have hf : FrameBut [] s (s.withCue { s.cue with reclaim := .posted }) := frame_reclaimMark s .posted
    refine ⟨_, hex, hp.finish.newPosts hs.2, ?_, (hf.chain (ds := [.line]) (frame_post _ _) (by decide) (by decide)).finish hq⟩
    exact finish_reclaim hq howes (by simp)
  · have hex : exec .swapBegin s = .next (event beginSwap s) := rfl
    have hready : swapReady s = true := by simp [swapReady, hx, hqueue, hver, hcopy, Store.swapping]
    have hact := beginSwap_of hp hready
    refine ⟨fun hv => ?_, fun hv => ?_⟩
    · rw [hv, if_pos rfl] at hact
      obtain ⟨t, hex, hpost, hserved, hmem, hfr⟩ := event_stores hs.1 hex hact rfl
      refine ⟨t, hex, hserved.same.copy, hserved.same.swapPending.trans hp, ?_, hserved.same.working, hmem,
        hpost.newPosts hs.2, hfr⟩
      rw [← shadowOf_eq, ← flagOfBank_eq]
      exact congrArg Record.target hserved.same.flag
    · rw [hv, if_neg (by decide)] at hact
      rw [event_calm _ hs.1, hact] at hex
      have hp' := ((Posting.refl hs.1).withStore { s.store with swapPending := none }).notice .unverified x none
        s.store.lastVerified (by simp)
      have hf : FrameBut [.store] s (s.withStore { s.store with swapPending := none }) := frame_withStore s rfl
      exact ⟨_, hex, finish_store_sameBut _ hp'.quiet, hp'.finish.newPosts hs.2,
        (hf.chain (ds := [.store, .line]) (frame_notice _ _ _ _ _) (by decide) (by decide)).finish hp'.quiet⟩

end

section
/-! How the line interface comes to ON, and what an idle line tells a station. -/

namespace Sys2Proof.Machine

/-! ### What an offer leaves of the line interface -/

theorem Line.offer_eq (l : Line) (p : Post) (u : PostUse) :
    ∃ q a r, Line.offer l p u = { l with queue := q, nextAge := a, reports := r } := by
  unfold Line.offer
  split
  · exact ⟨_, _, _, rfl⟩
  · exact ⟨_, _, _, rfl⟩
  · exact ⟨_, _, _, rfl⟩
  all_goals
    dsimp only
    split
    · exact ⟨_, _, _, rfl⟩
    · split
      · exact ⟨_, _, _, rfl⟩
      · exact ⟨_, _, _, rfl⟩

theorem Line.requestPresence_eq (l : Line) :
    ∃ p a f, Line.requestPresence l = { l with slot := p, nextAge := a, further := f } := by
  unfold Line.requestPresence
  split
  · split
    · exact ⟨_, _, _, rfl⟩
    · split
      · exact ⟨_, _, _, rfl⟩
      · exact ⟨_, _, _, rfl⟩
  all_goals exact ⟨_, _, _, rfl⟩

/-- Posts sent again touch the queue alone. -/
theorem resendAll_line (os : List OwedPost) (s : State) :
    ∃ q a r, (os.foldl resend s).line = { s.line with queue := q, nextAge := a, reports := r } := by
  induction os generalizing s with
  | nil => exact ⟨_, _, _, rfl⟩
  | cons o os ih =>
    obtain ⟨q, a, r, h⟩ := ih (resend s o)
    rw [List.foldl_cons, h, resend_line]
    split
    · obtain ⟨q', a', r', h'⟩ := Line.offer_eq s.line o.post o.use
      rw [h']
      exact ⟨q, a, r, rfl⟩
    · exact ⟨q, a, r, rfl⟩

/-! ### The return from LINE-OFF (07 R143; 03 R69, R70) -/

/-- The state that has come back to ON, its release and posts still owed. -/
def backOn (s : State) : State :=
  (s.withLine { s.line with state := .on, txSpoil := 0, offTimer := none }).askPresence

theorem returnToOn_eq (s : State) :
    returnToOn s = resendOwed (resendRelease (backOn s)).cue.owed.length (resendRelease (backOn s)) := rfl

theorem backOn_enqueued {s : State} (hq : s.line.queue = []) (hr : s.line.reports = []) :
    Line.Enqueued s.line (backOn s).line [] := by
  have h0 : Line.Enqueued s.line { s.line with state := .on, txSpoil := 0, offTimer := none } [] :=
    ⟨⟨[], [], by simp [hq], by simp, by simp, rfl⟩, Nat.le_refl _, hr⟩
  exact h0.presence

theorem backOn_line (s : State) :
    (backOn s).line.state = .on ∧ (backOn s).line.txSpoil = 0 ∧ (backOn s).line.offTimer = none
      ∧ (backOn s).line.slot.isSome = true ∧ (backOn s).line.queue = s.line.queue := by
  obtain ⟨p, a, f, h⟩ := Line.requestPresence_eq { s.line with state := .on, txSpoil := 0, offTimer := none }
  have hl : (backOn s).line = _ := h
  refine ⟨by rw [hl], by rw [hl], by rw [hl], Line.requestPresence_slot rfl, by rw [hl]⟩

/-- The release a station owes at its return, if its entry still stands and the key is not held again. -/
def releasePosts (s : State) : List Post :=
  match s.cue.owedRelease with
  | some k => if hasKey s.reg.table k = true ∧ s.cue.held.map (·.key) ≠ some k then [.release k] else []
  | none => []

/-- The owed release sent, if it still applies, or nothing. -/
theorem resendRelease_cases (s : State) :
    (releasePosts s = [] ∧ resendRelease s = s.withCue { s.cue with owedRelease := none })
      ∨ ∃ k, releasePosts s = [.release k]
        ∧ resendRelease s = (s.withCue { s.cue with owedRelease := none }).post (.release k) := by
  unfold releasePosts resendRelease
  cases hk : s.cue.owedRelease with
  | none =>
    left
    refine ⟨rfl, ?_⟩
    exact congrArg s.withCue (show s.cue = { s.cue with owedRelease := none } by rw [← hk])
  | some k =>
    by_cases h : hasKey s.reg.table k = true ∧ s.cue.held.map (·.key) ≠ some k
    · right
      refine ⟨k, if_pos h, if_pos ?_⟩
      simpa [CueUnit.heldKey] using h
    · left
      refine ⟨if_neg h, if_neg ?_⟩
      simpa [CueUnit.heldKey] using h

theorem frame_resendRelease (s : State) : FrameBut [.cue, .line] s (resendRelease s) := by
  rcases resendRelease_cases s with ⟨-, h⟩ | ⟨k, -, h⟩
  · rw [h]
    exact (frame_withCue s _).over (by decide)
  · rw [h]
    exact (frame_withCue s _).chain (frame_post _ _) (by decide) (by decide)

/-- With room for it, the owed release is enqueued where it still applies, and no release is owed any more. -/
theorem resendRelease_enqueued {l0 : Line} {s : State} (h : Line.Enqueued l0 s.line []) (hon : s.line.state = .on)
    (hq : s.line.queue = []) :
    Line.Enqueued l0 (resendRelease s).line (releasePosts s) ∧ (resendRelease s).line.queue.length ≤ 1
      ∧ (∃ q a r, (resendRelease s).line = { s.line with queue := q, nextAge := a, reports := r })
      ∧ (resendRelease s).cue = { s.cue with owedRelease := none } := by
  rcases resendRelease_cases s with ⟨hr, hs⟩ | ⟨k, hr, hs⟩
  · rw [hs, hr]
    exact ⟨h, by simp [hq], ⟨_, _, _, rfl⟩, rfl⟩
  · have hroom : s.line.queue.length < 8 := by simp [hq]
    have hl := Line.offer_room s.line (.release k) .plain (.inl hon) hroom
    rw [hs, hr]
    refine ⟨h.offer (.release k) .plain (.inl hon) hroom, ?_, ⟨_, _, _, hl⟩, rfl⟩
    rw [State.post_line, State.withCue_line, hl]
    simp [hq]

theorem resendOwed_all (s : State) :
    resendOwed s.cue.owed.length s = s.cue.owed.foldl resend (s.withCue { s.cue with owed := [] }) := by
  rw [resendOwed, List.take_length, List.drop_length]

/-! ### The first entry into ON (07 R135, 06 R128, 02 R29) -/

theorem enterOn_line (s : State) :
    (enterOn s).line = Line.requestPresence { s.line with state := .on, silence := none, onLine := none } := rfl

/-- What every entry into ON from JOINING leaves. -/
theorem enterOn_joins {s : State} (h : Calm s) :
    Line.Enqueued s.line (enterOn s).line [] ∧ (enterOn s).line.state = .on ∧ (enterOn s).line.silence = none
      ∧ (enterOn s).line.onLine = none ∧ (enterOn s).line.slot.isSome = true
      ∧ (enterOn s).sync = { s.sync with alone := .running } ∧ FrameBut [.line, .sync] s (enterOn s) := by
  have h0 : Line.Enqueued s.line { s.line with state := .on, silence := none, onLine := none } [] := by
    obtain ⟨ho, ha, hq⟩ := Line.enqueued_refl s.line h.2.1 h.2.2.2.2
    exact ⟨ho, ha, hq⟩
  rw [enterOn_line]
  obtain ⟨p, a, f, hl⟩ := Line.requestPresence_eq { s.line with state := .on, silence := none, onLine := none }
  exact ⟨h0.presence, by rw [hl], by rw [hl], by rw [hl], Line.requestPresence_slot rfl, rfl,
    ((frame_withLine s _).chain (ds := [.line, .sync]) (frame_withSync _ _) (by decide) (by decide)).chain (frame_askPresence _) (by decide) (by decide)⟩

/-- The event in which a JOINING station enters ON. -/
theorem finish_enterOn {s : State} (h : Calm s) :
    (finish (enterOn s)).line.state = .on ∧ (finish (enterOn s)).line.silence = none
      ∧ (finish (enterOn s)).line.onLine = none ∧ (finish (enterOn s)).line.slot.isSome = true
      ∧ (finish (enterOn s)).sync = { s.sync with alone := .running }
      ∧ FrameBut [.line, .sync] s (finish (enterOn s)) := by
  obtain ⟨henq, h1, h2, h3, h4, h5, hf⟩ := enterOn_joins h
  rw [finish_line _ henq.quiet, finish_sync _ henq.quiet]
  exact ⟨h1, h2, h3, h4, h5, hf.finish henq.quiet⟩

/-- An event that changes the line interface alone. -/
theorem finish_withLine {s : State} {l : Line} (hq : l.reports = []) :
    (finish (s.withLine l)).line = l ∧ FrameBut [.line] s (finish (s.withLine l)) :=
  ⟨finish_line _ hq, (frame_withLine s l).finish hq⟩

/-! ### An idle line (07 R135, R150) -/

theorem Line.loseTrack_other {l : Line} (h : l.onLine = some .other) :
    Line.loseTrack l = { l with onLine := none, silence := if l.state = .joining then some 100 else l.silence } := by
  simp only [Line.loseTrack, h]
  rfl

theorem Line.loseTrack_same {l : Line} (h : l.onLine ≠ some .other) : Line.loseTrack l = l := by
  unfold Line.loseTrack
  split
  · rename_i ho
    exact absurd ho h
  · rfl
  · rfl
  · rfl

theorem seeIdle_joining {s : State} (hj : s.line.state = .joining) (hw : s.line.watch ≠ .notWatching) :
    seeIdle s = s.withLine { Line.loseTrack s.line with watch := .following } := by
  simp only [seeIdle, hj]
  exact if_neg hw

/-- Joined, an idle line ends a post of another's alone. -/
theorem seeIdle_joined {s : State} (h : s.line.state = .on ∨ s.line.state = .lineOff) :
    seeIdle s = s.withLine { s.line with onLine := if s.line.onLine = some .other then none else s.line.onLine } := by
  have hj : s.line.state ≠ .joining := by rcases h with h | h <;> simp [h]
  have hact : seeIdle s = s.withLine (Line.loseTrack s.line) := by rcases h with h | h <;> simp [seeIdle, h]
  rw [hact]
  by_cases ho : s.line.onLine = some .other
  · rw [Line.loseTrack_other ho, if_neg hj, if_pos ho]
  · rw [Line.loseTrack_same ho, if_neg ho]

/-! ### A post delivered in JOINING (07 R135) -/

theorem exec_delivery_of {i : Instr} (hi : (∃ d, i.delivered = some d) ∨ ∃ n raw, i = .unfittingPost n raw) :
    ∃ n p act, ∀ s, exec i s = .next (deliver n p act s) := by
  rcases exec_event_or_deliver i with ⟨a, b, c, rfl⟩ | rfl | ⟨hn, hu, -⟩ | h
  · simp [Instr.delivered] at hi
  · simp [Instr.delivered] at hi
  · rcases hi with ⟨d, hd⟩ | ⟨n, raw, hr⟩
    · rw [hn] at hd
      cases hd
    · exact absurd hr (hu n raw)
  · exact h

theorem joinAtPost_following {s : State} (h : s.line.watch = .following) : joinAtPost s = enterOn s := by
  simp only [joinAtPost, h]

theorem joinAtPost_awaiting {s : State} (h : s.line.watch = .awaitIdle) :
    joinAtPost s = s.withLine { s.line with silence := some 100, onLine := none } := by
  simp only [joinAtPost, h]
  rfl

end Sys2Proof.Machine

open Sys2Proof Sys2Proof.Machine

/-- Settles O55. -/
theorem lineComesOn : Obligations.LineComesOn := by
  refine ⟨fun x s hpow hrep hst htimer hq hlen hos => ?_, fun s hs => ?_⟩
  · have hex : exec .lineOffTimerExpiry s = .next (event lineOffEnds s) := rfl
    rw [event_running _ s hpow, lineOffEnds, if_pos ⟨hst, by rw [htimer]; rfl⟩, returnToOn_eq, resendOwed_all] at hex
    have henq := backOn_enqueued hq hrep
    obtain ⟨hon, htx, hoff, hslot, hqueue⟩ := backOn_line s
    have hf0 : FrameBut [.cue, .line] s (backOn s) := (frame_withLine s _).chain (frame_askPresence _) (by decide) (by decide)
    have hcue0 : (backOn s).cue = s.cue := rfl
    have hreg0 : (backOn s).reg = s.reg := rfl
    have hpost0 : releasePosts (backOn s) = releasePosts s := rfl
    generalize backOn s = b at *
    obtain ⟨henq1, hlen1, ⟨q1, a1, r1, hl1⟩, hcue1⟩ := resendRelease_enqueued henq hon (hqueue.trans hq)
    have hf1 : FrameBut [.cue, .line] s (resendRelease b) := hf0.chain (frame_resendRelease b) (by decide) (by decide)
    rw [hpost0] at henq1
    have howed : (resendRelease b).cue.owed = s.cue.owed := by rw [hcue1, hcue0]
    generalize hw : resendRelease b = w at *
    rw [howed] at hex
    have hf2 : FrameBut [.cue, .line] s (w.withCue { w.cue with owed := [] }) := hf1.chain (frame_withCue _ _) (by decide) (by decide)
    have hall := enqueued_resendAll s.cue.owed hos (t := w.withCue { w.cue with owed := [] }) (hf2.block .reg (by decide))
      (by rw [State.withCue_line, hl1]; exact hon) (by rw [State.withCue_line]; omega) henq1
    have hfall := frame_resendAll s.cue.owed (w.withCue { w.cue with owed := [] })
    obtain ⟨q, a, r, hline⟩ := resendAll_line s.cue.owed (w.withCue { w.cue with owed := [] })
    generalize s.cue.owed.foldl resend (w.withCue { w.cue with owed := [] }) = v at *
    have hl : v.line = { b.line with queue := q, nextAge := a, reports := r } := by
      rw [hline, State.withCue_line, hl1]
    have hcue : CueUnit.sameBut (w.withCue { w.cue with owed := [] }).cue v.cue := hfall.block .cue (by decide)
    have hquiet := hall.quiet
    refine ⟨_, hex, ?_, ?_, ?_, ?_, ?_, ?_, ?_, (hf2.chain hfall (by decide) (by decide)).finish hquiet⟩
    · rw [finish_line _ hquiet, hl]
      exact hon
    · rw [finish_line _ hquiet, hl]
      exact htx
    · rw [finish_line _ hquiet, hl]
      exact hoff
    · rw [finish_line _ hquiet, hl]
      exact hslot
    · rw [finish_owedRelease hquiet, hcue.owedRelease, State.withCue_cue, hcue1]
    · rw [finish_owed hquiet, hcue.owed]
      rfl
    · refine newPosts_of_enqueued s _ _ ?_
      rw [finish_line _ hquiet]
      exact hall
  · refine ⟨fun x hj hsil => ?_, fun hj hw ho => ?_, fun hj hw ho => ?_, fun hon => ?_, fun i hi hj => ?_⟩
    · have hex : exec .joinSilenceExpiry s = .next (event silenceEnds s) := rfl
      rw [event_calm _ hs, silenceEnds, if_pos ⟨hj, by rw [hsil]; rfl⟩] at hex
      obtain ⟨h1, h2, -, h4, h5, hf⟩ := finish_enterOn hs
      exact ⟨_, hex, h1, h2, h4, h5, hf⟩
    · have hex : exec .lineIdleSeen s = .next (event seeIdle s) := rfl
      rw [event_calm _ hs, seeIdle_joining hj hw, Line.loseTrack_same ho] at hex
      exact ⟨_, hex, finish_withLine hs.2.1⟩
    · have hex : exec .lineIdleSeen s = .next (event seeIdle s) := rfl
      rw [event_calm _ hs, seeIdle_joining hj hw, Line.loseTrack_other ho, if_pos hj] at hex
      obtain ⟨hl, hf⟩ := finish_withLine (s := s)
        (l := { s.line with onLine := none, silence := some 100, watch := .following }) hs.2.1
      exact ⟨_, hex, hl, hf⟩
    · have hex : exec .lineIdleSeen s = .next (event seeIdle s) := rfl
      rw [event_calm _ hs, seeIdle_joined hon] at hex
      exact ⟨_, hex, finish_withLine hs.2.1⟩
    · obtain ⟨n, p, act, hdel⟩ := exec_delivery_of hi
      have hex : exec i s = .next (finish (joinAtPost s)) := by rw [hdel, deliver_joining n p act s hs.1 hj]
      refine ⟨fun hw => ?_, fun hw => ?_⟩
      · rw [joinAtPost_following hw] at hex
        obtain ⟨h1, h2, h3, h4, h5, hf⟩ := finish_enterOn hs
        exact ⟨_, hex, h1, h3, h2, h4, h5, hf⟩
      · rw [joinAtPost_awaiting hw] at hex
        exact ⟨_, hex, finish_withLine hs.2.1⟩

end

section
/-! The payload of a post and what is read of it, kind by kind; and the places of a frame's fields. -/

namespace Sys2Proof.Machine

/-! ### Bytes (08 R155) -/

theorem byte_toNat {n : Nat} (h : n < 256) : (byte n).toNat = n := by
  simpa [byte] using h

theorem byte_toNat_self (b : Byte) : byte b.toNat = b := BitVec.ofNat_toNat 8 b |>.trans (BitVec.setWidth_eq b)

theorem nat2_bytes {n : Nat} (h : n < 65536) : nat2 (byte (n / 256)) (byte (n % 256)) = n := by
  rw [nat2, byte_toNat (by omega), byte_toNat (by omega)]
  omega

theorem nat2_word (w : Word) : BitVec.ofNat 16 (nat2 (byte (w.toNat / 256)) (byte (w.toNat % 256))) = w := by
  rw [nat2_bytes w.isLt]
  simp

theorem ofOptByte_optByte {o : Option Nat} (h : isOpt o = true) : ofOptByte (optByte o) = o := by
  cases o with
  | none => rfl
  | some n =>
    have hn : n < 255 := by simpa [isOpt] using h
    have hb : (byte n).toNat = n := byte_toNat (by omega)
    simp only [ofOptByte, optByte, hb, absentByte]
    exact if_neg (by simp; omega)

/-- A signed value in its range is read as it was sent. -/
theorem ofTwos_toTwos {w : Nat} {v : Int} (hw : 0 < w) (h1 : -2 ^ (w - 1) ≤ v) (h2 : v < 2 ^ (w - 1)) :
    ofTwos w (toTwos w v) = v := by
  obtain ⟨k, rfl⟩ := Nat.exists_eq_succ_of_ne_zero (Nat.pos_iff_ne_zero.mp hw)
  simp only [Nat.succ_eq_add_one, Nat.add_sub_cancel] at h1 h2
  have hpow : (2 : Int) ^ (k + 1) = 2 * 2 ^ k := by rw [pow_succ]; ring
  have hnat : (((2 : Nat) ^ k : Nat) : Int) = 2 ^ k := by push_cast; rfl
  unfold ofTwos toTwos
  simp only [Nat.succ_eq_add_one, Nat.add_sub_cancel]
  rw [hpow]
  generalize (2 : Int) ^ k = p at *
  by_cases hv : 0 ≤ v
  · have hm : v % (2 * p) = v := Int.emod_eq_of_lt hv (by omega)
    rw [hm, if_pos (by omega)]
    omega
  · have hm : v % (2 * p) = v + 2 * p := by
      rw [← Int.add_mul_emod_self_left v (2 * p) 1, mul_one]
      exact Int.emod_eq_of_lt (by omega) (by omega)
    rw [hm, if_neg (by omega)]
    omega

theorem toTwos_lt (w : Nat) (v : Int) : toTwos w v < 2 ^ w := by
  have hpos : (0 : Int) < 2 ^ w := by positivity
  have h := Int.emod_lt_of_pos v hpos
  have h0 := Int.emod_nonneg v (ne_of_gt hpos)
  unfold toTwos
  have hnat : (((2 : Nat) ^ w : Nat) : Int) = 2 ^ w := by push_cast; rfl
  omega

theorem hasBit_toByte (f : FaultSet) : FaultSet.ofByte (FaultSet.toByte f) = f := by
  obtain ⟨a, b, c, d, e, g, h, i⟩ := f
  revert a b c d e g h i
  decide

theorem toByte_lt (f : FaultSet) : FaultSet.toByte f < 256 := by
  obtain ⟨a, b, c, d, e, g, h, i⟩ := f
  revert a b c d e g h i
  decide

/-! ### Payloads (08 R156 to R162) -/

/-- The states a PRESENCE carries in its first byte, each by a code that is read back. -/
theorem presenceBytes_codes (p : Presence) : ∃ a r, a < 16 ∧ axisOfCode a = p.axis ∧ r < 4 ∧ registerOfCode r = p.reg
    ∧ presenceBytes p = [byte (a * 16 + r), byte p.flyer] ++ bytes2 p.activeShow ++ bytes2 p.generation.toNat
      ++ [optByte p.runSegment] ++ bytes2 p.stepIndex
      ++ [byte (toTwos 24 p.haul / 65536), byte (toTwos 24 p.haul / 256 % 256), byte (toTwos 24 p.haul % 256)]
      ++ bytes2 (toTwos 16 p.load) ++ [byte (FaultSet.toByte p.faults), byte (presenceFlags p)] := by
  have haxis : ∀ o : Option AxisState, o.elim 15 axisCode < 16 ∧ axisOfCode (o.elim 15 axisCode) = o := fun o => by
    cases o with
    | none => exact ⟨by decide, rfl⟩
    | some a => cases a <;> exact ⟨by decide, rfl⟩
  have hreg : ∀ o : Option RegisterState, o.elim 3 registerCode < 4 ∧ registerOfCode (o.elim 3 registerCode) = o :=
    fun o => by
      cases o with
      | none => exact ⟨by decide, rfl⟩
      | some r => cases r <;> exact ⟨by decide, rfl⟩
  refine ⟨p.axis.elim 15 axisCode, p.reg.elim 3 registerCode, (haxis _).1, (haxis _).2, (hreg _).1, (hreg _).2, ?_⟩
  unfold presenceBytes
  cases p.axis <;> cases p.reg <;> rfl

theorem wordsOf_bytes (ws : List Word) : wordsOf (ws.flatMap (fun w => bytes2 w.toNat)) = some ws := by
  induction ws with
  | nil => rfl
  | cons w ws ih =>
    simp only [List.flatMap_cons, bytes2, List.cons_append, List.nil_append]
    simp only [bytes2] at ih
    simp only [wordsOf, ih, nat2_word, Option.map_some]

theorem wordBytes_length (ws : List Word) : (ws.flatMap (fun w => bytes2 w.toNat)).length = 2 * ws.length := by
  induction ws with
  | nil => rfl
  | cons w ws ih =>
    rw [List.flatMap_cons, List.length_append, ih, List.length_cons]
    simp [bytes2]
    omega

theorem membersRead {ms : List Nat} (h : ms.all isByte = true) : (ms.map byte).map (·.toNat) = ms := by
  rw [List.map_map]
  refine (List.map_congr_left fun m hm => ?_).trans (List.map_id ms)
  have := List.all_eq_true.mp h m hm
  exact byte_toNat (by simpa [isByte] using this)

theorem presenceFlags_lt (p : Presence) : presenceFlags p < 256 := by
  unfold presenceFlags
  generalize p.showStop = a
  generalize p.swapPending = b
  generalize p.swapping = c
  generalize p.locked = d
  generalize p.bankForced = e
  revert a b c d e
  decide

theorem presenceFlags_bits (p : Presence) :
    hasBit (presenceFlags p) 0 = p.showStop ∧ hasBit (presenceFlags p) 1 = p.swapPending
      ∧ hasBit (presenceFlags p) 2 = p.swapping ∧ hasBit (presenceFlags p) 3 = p.locked
      ∧ hasBit (presenceFlags p) 4 = p.bankForced := by
  unfold presenceFlags
  generalize p.showStop = a
  generalize p.swapPending = b
  generalize p.swapping = c
  generalize p.locked = d
  generalize p.bankForced = e
  revert a b c d e
  decide

theorem parse_presence (ar fl s1 s0 g1 g0 rs i1 i0 h2 h1 h0 l1 l0 fs fg : Byte) :
    parsePayload 13 [ar, fl, s1, s0, g1, g0, rs, i1, i0, h2, h1, h0, l1, l0, fs, fg]
      = some (.presence (presenceOf ar fl s1 s0 g1 g0 rs i1 i0 h2 h1 h0 l1 l0 fs fg)) := rfl

theorem presence_read {p : Presence} (h : p.inRange = true) :
    parsePayload 13 (presenceBytes p) = some (.presence p) := by
  simp only [Presence.inRange, Bool.and_eq_true, isByte, isTwo, decide_eq_true_eq] at h
  obtain ⟨⟨⟨⟨⟨⟨⟨hfl, hshow⟩, hseg⟩, hstep⟩, hh1⟩, hh2⟩, hl1⟩, hl2⟩ := h
  obtain ⟨a, r, haxlt, hax, hreglt, hreg, hbytes⟩ := presenceBytes_codes p
  have hhaul := toTwos_lt 24 p.haul
  have hload := toTwos_lt 16 p.load
  obtain ⟨hb0, hb1, hb2, hb3, hb4⟩ := presenceFlags_bits p
  rw [hbytes]
  generalize hth : toTwos 24 p.haul = th at *
  generalize htl : toTwos 16 p.load = tl at *
  have hcode : (byte (a * 16 + r)).toNat = a * 16 + r := byte_toNat (by omega)
  have hdiv : (a * 16 + r) / 16 = a := by omega
  have hmod : (a * 16 + r) % 4 = r := by omega
  have hhigh : (byte (th / 65536)).toNat * 65536 + nat2 (byte (th / 256 % 256)) (byte (th % 256)) = th := by
    rw [byte_toNat (by omega), nat2, byte_toNat (by omega), byte_toNat (by omega)]
    omega
  have hht : ofTwos 24 th = p.haul := by
    rw [← hth]
    exact ofTwos_toTwos (by decide) (by omega) (by omega)
  have hlt : ofTwos 16 tl = p.load := by
    rw [← htl]
    exact ofTwos_toTwos (by decide) (by omega) (by omega)
  simp only [bytes2, List.cons_append, List.nil_append, parse_presence, presenceOf, hcode, hdiv, hmod, hax, hreg,
    byte_toNat hfl, nat2_bytes hshow, nat2_word, ofOptByte_optByte hseg, nat2_bytes hstep, hhigh, hht,
    nat2_bytes hload, hlt, byte_toNat (toByte_lt _), hasBit_toByte, byte_toNat (presenceFlags_lt p), hb0, hb1, hb2,
    hb3, hb4]


theorem ready_read {f sh sg : Nat} {ms : List Nat} (h : (Post.ready f sh sg ms).wf = true) :
    parsePayload 9 (payload (.ready f sh sg ms)) = some (.ready f sh sg ms) := by
  simp only [Post.wf, Post.inRange, postIllCoded, readyIllCoded, Bool.and_eq_true, Bool.not_eq_true', Bool.not_eq_false',
    isByte, isTwo, decide_eq_true_eq] at h
  obtain ⟨⟨⟨⟨hf, hsh⟩, hsg⟩, hms⟩, -, h4⟩ := h
  have hlen : (ms.map byte).length = (byte ms.length).toNat := by rw [List.length_map, byte_toNat (by omega)]
  have hpay : payload (.ready f sh sg ms)
      = byte f :: byte (sh / 256) :: byte (sh % 256) :: byte sg :: byte ms.length :: ms.map byte := rfl
  rw [hpay]
  refine (if_pos hlen).trans (congrArg some ?_)
  rw [membersRead hms, byte_toNat hf, nat2_bytes hsh, byte_toNat hsg]

theorem loadData_read {t : Nat} {ws : List Word} (h : (Post.loadData t ws).inRange = true) :
    parsePayload 21 (payload (.loadData t ws)) = some (.loadData t ws) := by
  simp only [Post.inRange, Bool.and_eq_true, isByte, decide_eq_true_eq] at h
  obtain ⟨⟨ht, h1⟩, h6⟩ := h
  have hlen := wordBytes_length ws
  have hpay : payload (.loadData t ws) = byte t :: byte 2 :: ws.flatMap (fun w => bytes2 w.toNat) := rfl
  rw [hpay]
  refine (if_neg ?_).trans ?_
  · rw [hlen]
    omega
  · rw [wordsOf_bytes, byte_toNat ht]
    rfl

/-- The fields of a well-formed post are read off its payload as they were sent. -/
theorem parse_payload {p : Post} (h : p.wf = true) : parsePayload (Post.kind p) (payload p) = some p := by
  have hr : p.inRange = true := (Bool.and_eq_true_iff.mp h).1
  cases p
  case presence p => exact presence_read hr
  case ready f sh sg ms => exact ready_read h
  case loadData t ws => exact loadData_read hr
  all_goals
    simp only [Post.inRange, Key.isBytes, Box.isBytes, Bool.and_eq_true, isByte, isTwo, decide_eq_true_eq] at hr
    refine congrArg some (?_ : (_ : Post) = _)
    simp [byte_toNat, nat2_bytes, nat2_word, ofOptByte_optByte, byte_toNat (toByte_lt _), hasBit_toByte, hr]

/-! ### Kinds, classes and lengths (08 R154) -/

theorem payload_length {p : Post} (h : p.wf = true) :
    (payload p).length ∈ kindLengths (Post.kind p) ∧ (payload p).length ≤ 16 := by
  have hr : p.inRange = true := (Bool.and_eq_true_iff.mp h).1
  cases p
  case ready f sh sg ms =>
    have hms : 1 ≤ ms.length ∧ ms.length ≤ 4 := by
      simpa [Post.wf, postIllCoded, readyIllCoded] using (Bool.and_eq_true_iff.mp h).2
    have hlen : (payload (.ready f sh sg ms)).length = 5 + ms.length := by
      simp [payload, bytes2]
      omega
    obtain ⟨h1, h4⟩ := hms
    rw [hlen, show Post.kind (.ready f sh sg ms) = 9 from rfl]
    interval_cases ms.length <;> exact ⟨by decide, by decide⟩
  case loadData t ws =>
    simp only [Post.inRange, Bool.and_eq_true, decide_eq_true_eq] at hr
    obtain ⟨⟨-, h1⟩, h6⟩ := hr
    have hlen : (payload (.loadData t ws)).length = 2 + 2 * ws.length := by
      rw [← wordBytes_length]
      exact Nat.add_comm _ 2
    rw [hlen, show Post.kind (.loadData t ws) = 21 from rfl]
    interval_cases ws.length <;> exact ⟨by decide, by decide⟩
  all_goals exact ⟨List.mem_of_elem_eq_true rfl, Nat.le_of_ble_eq_true rfl⟩

theorem kind_class (p : Post) : kindClass (Post.kind p) = some (Post.cls p) ∧ Post.kind p < 32 ∧ Post.cls p < 8 := by
  cases p <;> exact ⟨rfl, Nat.le_of_ble_eq_true rfl, Nat.le_of_ble_eq_true rfl⟩

/-- A well-formed post decodes from its own frame (08 R154). -/
theorem decode_encode {p : Post} (h : p.wf = true) : decodePost (encodePost p) = some p := by
  have hill : postIllCoded p = false := by simpa using (Bool.and_eq_true_iff.mp h).2
  refine (if_pos ⟨(kind_class p).1, (payload_length h).1⟩).trans ?_
  simp only [encodePost, parse_payload h, hill]
  rfl

/-! ### Where a frame's fields lie (08 R152) -/

/-- A field between two strings. -/
theorem field_between {a b c : List Bool} {i w : Nat} (ha : a.length = i) (hb : b.length = w) :
    field (a ++ (b ++ c)) i w = numOf b := by
  subst ha hb
  rw [field, List.drop_left, List.take_left]

theorem bitsOf_length (w n : Nat) : (bitsOf w n).length = w := by simp [bitsOf]

theorem byteBits_length (bs : List Byte) : (bs.flatMap (fun b => bitsOf 8 b.toNat)).length = 8 * bs.length := by
  induction bs with
  | nil => rfl
  | cons b bs ih =>
    rw [List.flatMap_cons, List.length_append, ih, bitsOf_length, List.length_cons]
    omega

/-- The bytes of a payload are read off the string behind what stands before them, one by one. -/
theorem bytes_read {pre post : List Bool} (bs : List Byte) {k : Nat} (hk : pre.length = k) :
    (List.range bs.length).map (fun i => byte (field (pre ++ (bs.flatMap (fun b => bitsOf 8 b.toNat) ++ post))
      (k + 8 * i) 8)) = bs := by
  induction bs generalizing pre k with
  | nil => rfl
  | cons b bs ih =>
    rw [List.length_cons, List.range_succ_eq_map, List.map_cons, List.map_map, List.flatMap_cons, List.append_assoc]
    refine congrArg₂ List.cons ?_ ?_
    · rw [Nat.mul_zero, Nat.add_zero, field_between hk (bitsOf_length 8 _), numOf_bitsOf 8 _ b.isLt, byte_toNat_self]
    · have hk' : (pre ++ bitsOf 8 b.toNat).length = k + 8 := by rw [List.length_append, hk, bitsOf_length]
      refine Eq.trans (List.map_congr_left fun i _ => ?_) (ih hk')
      rw [List.append_assoc, Function.comp_apply, show k + 8 * i.succ = k + 8 + 8 * i by omega]

/-! ### A frame as it is read (07 R139, R150) -/

/-- Start bit, class, sender, kind and length. -/
def headBits (n : Nat) (raw : RawPost) : List Bool :=
  false :: (bitsOf 3 raw.cls ++ (bitsOf 6 n ++ (bitsOf 5 raw.kind ++ bitsOf 5 raw.payload.length)))

/-- Payload and check. -/
def bodyBits (raw : RawPost) (check : Word) : List Bool :=
  raw.payload.flatMap (fun b => bitsOf 8 b.toNat) ++ bitsOf 16 check.toNat

theorem Frame.bits_eq (f : Frame) : f.bits = headBits f.sender f.raw ++ bodyBits f.raw f.check := by
  simp only [Frame.bits, frameBits, headBits, bodyBits, List.append_assoc, List.cons_append]

theorem headBits_length (n : Nat) (raw : RawPost) : (headBits n raw).length = 20 := by
  simp only [headBits, List.length_cons, List.length_append, bitsOf_length]

/-- A number in its field. -/
theorem field_number (a c : List Bool) {i m : Nat} (w : Nat) (ha : a.length = i) (hm : m < 2 ^ w) :
    field (a ++ (bitsOf w m ++ c)) i w = m := by
  rw [field_between ha (bitsOf_length w m), numOf_bitsOf w m hm]

/-- The fields of a frame's string, each at its place. -/
theorem fields_read {n : Nat} {raw : RawPost} {check : Word} {x : List Bool} (hn : n < 64) (hc : raw.cls < 8)
    (hk : raw.kind < 32) (hl : raw.payload.length < 32) :
    field (headBits n raw ++ x) 1 3 = raw.cls ∧ field (headBits n raw ++ x) 4 6 = n
      ∧ field (headBits n raw ++ x) 10 5 = raw.kind ∧ field (headBits n raw ++ x) 15 5 = raw.payload.length
      ∧ (List.range raw.payload.length).map (fun i =>
          byte (field (headBits n raw ++ bodyBits raw check) (20 + 8 * i) 8)) = raw.payload
      ∧ field (headBits n raw ++ bodyBits raw check) (20 + 8 * raw.payload.length) 16 = check.toNat := by
  refine ⟨?_, ?_, ?_, ?_, bytes_read raw.payload (headBits_length n raw), ?_⟩
  · refine Eq.trans ?_ (field_number (i := 1) [false] (bitsOf 6 n ++ (bitsOf 5 raw.kind ++ (bitsOf 5 raw.payload.length ++ x))) 3
      rfl hc)
    simp only [headBits, List.append_assoc, List.cons_append, List.nil_append]
  · refine Eq.trans ?_ (field_number (false :: bitsOf 3 raw.cls) (bitsOf 5 raw.kind ++ (bitsOf 5 raw.payload.length ++ x))
      6 (by rw [List.length_cons, bitsOf_length]) hn)
    simp only [headBits, List.append_assoc, List.cons_append]
  · refine Eq.trans ?_ (field_number (false :: (bitsOf 3 raw.cls ++ bitsOf 6 n)) (bitsOf 5 raw.payload.length ++ x)
      5 (by rw [List.length_cons, List.length_append, bitsOf_length, bitsOf_length]) hk)
    simp only [headBits, List.append_assoc, List.cons_append]
  · refine Eq.trans ?_ (field_number (i := 15) (false :: (bitsOf 3 raw.cls ++ (bitsOf 6 n ++ bitsOf 5 raw.kind))) x
      5 (by simp only [List.length_cons, List.length_append, bitsOf_length]) hl)
    simp only [headBits, List.append_assoc, List.cons_append]
  · refine Eq.trans ?_ (field_number (headBits n raw ++ raw.payload.flatMap (fun b => bitsOf 8 b.toNat)) []
      16 (by rw [List.length_append, headBits_length, byteBits_length]) check.isLt)
    simp only [bodyBits, List.append_assoc, List.append_nil]

/-- What a receiver reads off the levels of a frame whose fields fit their places. -/
theorem read_frame {n : Nat} {raw : RawPost} {check : Word} (rest : List Bool) (hn : n < 64) (hc : raw.cls < 8)
    (hk : raw.kind < 32) (hl : raw.payload.length ≤ 16) :
    Received.read ((⟨n, raw, check⟩ : Frame).coded ++ rest)
      = { sender := n, length := raw.payload.length, raw := raw, check := check, broken := false, tail := rest } := by
  have hhead := fields_read (x := []) (check := check) hn hc hk (by omega)
  have hall := fields_read (x := bodyBits raw check) (check := check) hn hc hk (by omega)
  have hbits := Frame.bits_eq ⟨n, raw, check⟩
  have htake20 : takeBits ((⟨n, raw, check⟩ : Frame).coded ++ rest) 20 Run.start
      = some (headBits n raw, insertBits (Run.after Run.start (headBits n raw)) (bodyBits raw check) ++ rest) := by
    rw [Frame.coded, hbits, insertBits_append, List.append_assoc, ← headBits_length n raw]
    exact takeBits_insertBits _ _ _ (by decide)
  have htake := takeBits_frame ⟨n, raw, check⟩ rest
  rw [List.append_nil] at hhead
  obtain ⟨-, -, -, hlen, -⟩ := hhead
  obtain ⟨hcls, hsend, hkind, -, hpay, hchk⟩ := hall
  unfold Received.read
  rw [htake20]
  dsimp only
  rw [hlen]
  unfold Frame.coded
  rw [htake]
  dsimp only
  rw [hbits, hcls, hsend, hkind, if_neg (by omega), hpay, hchk]
  simp

theorem read_sent {p : Post} (n : Fin 48) (rest : List Bool) (h : p.wf = true) :
    Received.read ((Frame.of n.val p).coded ++ rest)
      = { sender := n.val, length := (payload p).length, raw := encodePost p,
          check := frameCheck n.val (encodePost p), broken := false, tail := rest } := by
  obtain ⟨-, hk, hc⟩ := kind_class p
  exact read_frame rest (by omega) hc hk (payload_length h).2

end Sys2Proof.Machine

open Sys2Proof Sys2Proof.Machine

/-- Settles O60: the levels give back the string, the string its fields, and the fields the post. -/
theorem postsDecodeAsEncoded : Obligations.PostsDecodeAsEncoded := by
  intro p n rest h
  refine ⟨decode_encode h, ?_⟩
  rw [read_sent n rest h]
  have hlen := (payload_length h).2
  refine ⟨rfl, rfl, rfl, decode_encode h, ?_, fun more hm => ?_, fun more hm => ?_⟩
  · simp only [receiveFinding]
    rw [if_neg (by decide), if_neg (by omega), if_neg (by omega), if_neg (not_not.mpr rfl)]
  · rw [Received.close_undriven _ (Received.undriven_of_tail _ false more hm) n.isLt]
    simp only [commandOf, decode_encode h]
  · exact Received.close_driven _ none (Received.undriven_of_tail _ true more hm)

end

section
/-! What the operations of the sync protocol keep (02 R26 to R42). -/

namespace Sys2Proof.Machine

/-! ### Changes of register, sync unit, roster and line interface -/

/-- Axis, cue unit, engine, store and lock stand: what is left to show is what the tables, the queues and the register's laws ask. -/
theorem keeps_protocol {ex : List Exempt} {s t : State} (hcfg : t.cfg = s.cfg) (hcue : t.cue = s.cue)
    (heng : t.engine = s.engine) (hax : t.axis = s.axis) (hst : t.store = s.store) (hlock : t.lock = s.lock)
    (hl : s.line.Ordered → t.line.Ordered) (hw : s.sync.waitList.length ≤ 4 → t.sync.waitList.length ≤ 4)
    (hc : s.sync.changes.length ≤ 8 → t.sync.changes.length ≤ 8)
    (ht : .table ∉ ex → s.reg.table.length ≤ 24 → t.reg.table.length ≤ 24)
    (hcopy : .copying ∉ ex → CopyFits s → CopyFits t) (hreg : AxisLaws s → RegisterLaws s → RegisterLaws t) :
    KeepsBut ex s t := by
  obtain ⟨_, _, _, _, _, _, _, _, _, _, _, _, _, _⟩ := s
  obtain ⟨_, _, _, _, _, _, _, _, _, _, _, _, _, _⟩ := t
  subst hcfg hcue heng hax hst hlock
  exact
    { memory := id, line := hl, cues := id, waiting := hw, changes := hc, table := ht, copying := hcopy, slots := id
      axis := fun h =>
        ⟨h.armed, h.flying, h.engine, h.origin, h.faulted, h.brake, h.lockKept, h.locked, h.showStop⟩
      register := hreg
      records := fun _ h => h.congr rfl rfl rfl
      asked := fun _ _ _ h => h.congr rfl id
      stored := fun _ _ => id }

theorem KeepsBut.restore {s t : State} (h : KeepsBut [.copying] s t) (hc : CopyFits t) : Keeps s t :=
  { h with table := fun _ => h.table (by decide), copying := fun _ _ => hc, asked := fun _ => h.asked (by decide) }

theorem copyFits_of_phase {s : State} (h : s.sync.phase ≠ .copying) : CopyFits s := fun hp => absurd hp h

/-- In SYNCING the axis is grounded. -/
theorem RegisterLaws.grounded_of_syncing {s : State} (h : RegisterLaws s) (hr : s.reg.state = .syncing) :
    s.axis.state ≠ .armed ∧ s.axis.state ≠ .flying := by
  have hn : ¬(s.reg.state = .current ∨ s.reg.state = .stale) := by simp [hr]
  exact ⟨fun hx => hn (h.register (.inl hx)), fun hx => hn (h.register (.inr hx))⟩

/-- With the axis neither ARMED nor FLYING the laws ask the sync unit alone. -/
theorem RegisterLaws.of_grounded {s : State} (ha : s.axis.state ≠ .armed) (hf : s.axis.state ≠ .flying)
    (hs : s.sync.phase ≠ .idle → s.reg.state = .syncing)
    (ht : s.sync.attemptTimer.isSome = true → s.sync.phase = .awaiting ∨ s.sync.phase = .copying)
    (hy : s.sync.retryTimer.isSome = true → s.sync.phase = .resting) : RegisterLaws s where
  register hx := absurd hx (by simp [ha, hf])
  runKey hx := absurd hx hf
  syncing := hs
  attempt := ht
  resting := hy

/-- Between rounds the laws ask nothing of the sync unit. -/
theorem RegisterLaws.of_idle {s : State}
    (hr : s.axis.state = .armed ∨ s.axis.state = .flying → s.reg.state = .current ∨ s.reg.state = .stale)
    (hk : s.axis.state = .flying → ∃ c, s.cue.current = some c ∧ hasKey s.reg.table c.runKey = true)
    (hp : s.sync.phase = .idle) (ht : s.sync.attemptTimer = none) (hy : s.sync.retryTimer = none) :
    RegisterLaws s where
  register := hr
  runKey := hk
  syncing h := absurd hp h
  attempt h := absurd h (by simp [ht])
  resting h := absurd h (by simp [hy])

theorem RegisterLaws.timers_idle {s : State} (h : RegisterLaws s) (hp : s.sync.phase = .idle) :
    s.sync.attemptTimer = none ∧ s.sync.retryTimer = none := by
  constructor
  · cases ht : s.sync.attemptTimer with
    | none => rfl
    | some x => exact absurd (h.attempt (by simp [ht])) (by simp [hp])
  · cases ht : s.sync.retryTimer with
    | none => rfl
    | some x => exact absurd (h.resting (by simp [ht])) (by simp [hp])

/-! ### The register's states -/

theorem trimWaiting_length (u : SyncUnit) (h : u.waitList.length ≤ 4) : u.trimWaiting.waitList.length ≤ 4 := by
  unfold SyncUnit.trimWaiting
  dsimp only
  split
  · rw [List.length_take]
    omega
  · exact Nat.zero_le _

theorem syncSetting_fields (a b : RegisterState) (u : SyncUnit) :
    (u.waitList.length ≤ 4 → (syncSetting a b u).waitList.length ≤ 4) ∧ (syncSetting a b u).changes = u.changes
      ∧ (syncSetting a b u).phase = u.phase ∧ (syncSetting a b u).attemptTimer = u.attemptTimer
      ∧ (syncSetting a b u).retryTimer = u.retryTimer ∧ (syncSetting a b u).expected = u.expected
      ∧ (syncSetting a b u).received = u.received := by
  unfold syncSetting
  split
  · exact ⟨id, rfl, rfl, rfl, rfl, rfl, rfl⟩
  · split
    · exact ⟨id, rfl, rfl, rfl, rfl, rfl, rfl⟩
    · split
      · exact ⟨trimWaiting_length u, rfl, rfl, rfl, rfl, rfl, rfl⟩
      · exact ⟨id, rfl, rfl, rfl, rfl, rfl, rfl⟩

/-- A change of the register's state keeps all but, perhaps, the register's own laws. -/
theorem keeps_setRegister (r : RegisterState) (s : State)
    (h : AxisLaws s → RegisterLaws s → RegisterLaws (setRegister r s)) : Keeps s (setRegister r s) := by
  rw [setRegister_eq] at h ⊢
  obtain ⟨hw, hc, hp, -, -, he, hr⟩ := syncSetting_fields s.reg.state r s.sync
  refine keeps_protocol rfl rfl rfl rfl rfl rfl id hw (fun hb => ?_) (fun _ => id) (fun _ => ?_) h
  · rw [State.withSync_sync, hc]
    exact hb
  · unfold CopyFits
    rw [State.withSync_sync, hp, he, hr]
    exact id

theorem setRegister_laws {r : RegisterState} {s : State} (h : RegisterLaws s)
    (hr : s.axis.state = .armed ∨ s.axis.state = .flying → r = .current ∨ r = .stale)
    (hp : s.sync.phase ≠ .idle → r = .syncing) : RegisterLaws (setRegister r s) := by
  rw [setRegister_eq]
  obtain ⟨-, -, hph, hat, hrt, -, -⟩ := syncSetting_fields s.reg.state r s.sync
  exact
    { register := hr
      runKey := h.runKey
      syncing := by rw [State.withSync_sync, hph]; exact hp
      attempt := by rw [State.withSync_sync, hph, hat]; exact h.attempt
      resting := by rw [State.withSync_sync, hph, hrt]; exact h.resting }

theorem keeps_leaveCurrent {s : State} (hc : s.reg.state = .current) : Keeps s (setRegister .stale s) := by
  refine keeps_setRegister .stale s fun _ h => setRegister_laws h (fun _ => .inr rfl) fun hp => ?_
  rw [h.syncing hp] at hc
  cases hc

/-- The attempt record cleared between rounds. -/
theorem keeps_endRound (s : State) : Keeps s (s.withSync s.sync.endRound) :=
  keeps_protocol rfl rfl rfl rfl rfl rfl id id (fun _ => Nat.zero_le _) (fun _ => id)
    (fun _ _ => copyFits_of_phase (by simp [SyncUnit.endRound]))
    (fun _ h => .of_idle h.register h.runKey rfl rfl rfl)

theorem keeps_becomeCurrent (s : State) : Keeps s (becomeCurrent s) := by
  refine (keeps_endRound s).trans (keeps_setRegister .current _ fun _ h => ?_)
  exact setRegister_laws h (fun _ => .inl rfl) (fun hp => absurd rfl hp)

/-- In SYNCING the table may be emptied: no run needs its key. -/
theorem keeps_startRigAlone {s : State} (hr : s.reg.state = .syncing) : Keeps s (startRigAlone s) := by
  have hreg : (startRigAlone s).reg = { s.reg with table := [], generation := 0, state := .current } := by
    rw [startRigAlone_of (by simp [hr])]
    rfl
  have hsync : (startRigAlone s).sync = s.sync.settled := by
    rw [startRigAlone_of (by simp [hr])]
    rfl
  rw [startRigAlone_of (by simp [hr])] at hreg hsync ⊢
  refine keeps_protocol rfl rfl rfl rfl rfl rfl id id (fun _ => Nat.zero_le _) (fun _ _ => Nat.zero_le _)
    (fun _ _ => copyFits_of_phase (by simp [SyncUnit.settled, SyncUnit.endRound])) (fun _ h => ?_)
  obtain ⟨ha, hf⟩ := h.grounded_of_syncing hr
  exact .of_grounded ha hf (fun hp => absurd rfl hp) (fun hp => absurd hp (by simp [SyncUnit.settled, SyncUnit.endRound]))
    (fun hp => absurd hp (by simp [SyncUnit.settled, SyncUnit.endRound]))

/-! ### Attempts -/

theorem keeps_beginAttempt {s : State} (hr : s.reg.state = .syncing) (hp : s.sync.phase = .idle) (r : Nat) :
    Keeps s (beginAttempt r s) := by
  refine KeepsBut.trans (t := s.withSync { s.sync with phase := .posting, responder := some r }) ?_ (keeps_post _ _)
  refine keeps_protocol rfl rfl rfl rfl rfl rfl id id id (fun _ => id)
    (fun _ _ => copyFits_of_phase (by simp)) (fun _ h => ?_)
  obtain ⟨ha, hf⟩ := h.grounded_of_syncing hr
  obtain ⟨h1, h2⟩ := h.timers_idle hp
  exact .of_grounded ha hf (fun _ => hr) (fun ht => absurd ht (by simp [h1])) (fun ht => absurd ht (by simp [h2]))

theorem keeps_choice (s : State) : Keeps s (choice s) := by
  rcases choice_cases s with ⟨ho, r, -, hc⟩ | ⟨ho, -, -, -, hc⟩ | hc
  · rw [hc]
    obtain ⟨hr, hp, -⟩ := (choiceOpen_iff s).mp ho
    exact keeps_beginAttempt hr hp r
  · rw [hc]
    exact keeps_startRigAlone ((choiceOpen_iff s).mp ho).1
  · rw [hc]
    exact .refl _ s

theorem keeps_failing {s : State} (hp : RegisterLaws s → s.sync.phase ≠ .resting) : Keeps s (s.withSync s.sync.failing) := by
  refine keeps_protocol rfl rfl rfl rfl rfl rfl id id (fun _ => Nat.zero_le _) (fun _ => id)
    (fun _ _ => copyFits_of_phase (by simp [SyncUnit.failing])) (fun _ h => ?_)
  refine .of_idle h.register h.runKey rfl rfl ?_
  cases ht : s.sync.retryTimer with
  | none => exact ht
  | some x => exact absurd (h.resting (by simp [ht])) (hp h)

theorem Phase.inAttempt.ne {p : Phase} (h : p.inAttempt = true) : p ≠ .idle ∧ p ≠ .resting := by
  cases p <;> simp [Phase.inAttempt] at h <;> decide

/-- The failure of an attempt in progress. -/
theorem keeps_failAttempt {s : State} (hp : RegisterLaws s → s.sync.phase.inAttempt = true) :
    Keeps s (failAttempt s) := by
  have hne : RegisterLaws s → s.sync.phase ≠ .idle ∧ s.sync.phase ≠ .resting := fun h =>
    Phase.inAttempt.ne (hp h)
  by_cases hf : s.sync.failed + 1 < 3
  · rw [failAttempt_again hf]
    exact (keeps_failing fun h => (hne h).2).trans (keeps_choice _)
  · rw [failAttempt_last hf]
    refine KeepsBut.trans (t := s.withSync { s.sync.failing with phase := .resting, retryTimer := some 5000 }) ?_
      (keeps_notice _ _ _ _ _)
    refine keeps_protocol rfl rfl rfl rfl rfl rfl id id (fun _ => Nat.zero_le _) (fun _ => id)
      (fun _ _ => copyFits_of_phase (by simp)) (fun _ h => ?_)
    have hr := h.syncing (hne h).1
    obtain ⟨ha, hx⟩ := h.grounded_of_syncing hr
    exact .of_grounded ha hx (fun _ => hr) (fun ht => absurd ht (by simp [SyncUnit.failing])) (fun _ => rfl)

theorem keeps_abandon (s : State) : Keeps s (s.withSync s.sync.abandon) := by
  unfold SyncUnit.abandon
  by_cases hp : s.sync.phase.inAttempt = true
  · rw [if_pos hp]
    refine keeps_protocol rfl rfl rfl rfl rfl rfl id id (fun _ => Nat.zero_le _) (fun _ => id)
      (fun _ _ => copyFits_of_phase (by simp)) (fun _ h => ?_)
    refine .of_idle h.register h.runKey rfl rfl (show s.sync.retryTimer = none from ?_)
    cases ht : s.sync.retryTimer with
    | none => rfl
    | some x =>
      rw [h.resting (by simp [ht])] at hp
      exact absurd hp (by decide)
  · rw [if_neg hp]
    exact .refl _ s

/-! ### Answers -/

/-- An update of the wait list and the answer. -/
theorem keeps_answers (s : State) (ws : List Nat) (a : Option Answer)
    (hw : s.sync.waitList.length ≤ 4 → ws.length ≤ 4) : Keeps s (s.withSync { s.sync with waitList := ws, answer := a }) :=
  keeps_withSync s _ rfl rfl rfl rfl rfl hw id

theorem keeps_serveNext (s : State) : Keeps s (serveNext s) := by
  cases hw : s.sync.waitList with
  | nil =>
    rw [serveNext_none hw]
    exact .refl _ s
  | cons q qs =>
    rw [serveNext_cons hw]
    exact (keeps_answers s s.sync.waitList _ id).trans (keeps_post _ _)

theorem keeps_endAnswer (s : State) : Keeps s (endAnswer s) :=
  (keeps_answers s (s.sync.waitList.drop 1) none fun h => by
    rw [List.length_drop]
    omega).trans (keeps_serveNext _)

theorem keeps_clearAnswers (s : State) : Keeps s (s.withSync s.sync.clearAnswers) :=
  keeps_answers s [] none fun _ => Nat.zero_le _

theorem keeps_answerNext (q i : Nat) (s : State) : Keeps s (answerNext q i s) := by
  unfold answerNext
  split
  · split
    · exact keeps_post s _
    · exact .refl _ s
  · exact .refl _ s

theorem keeps_answerDone (q : Nat) (s : State) : Keeps s (answerDone q s) := by
  unfold answerDone
  split
  · exact keeps_endAnswer s
  · exact .refl _ s

/-! ### SYNC (02 R30, R31) -/

theorem keeps_syncSent (s : State) : Keeps s (syncSent s) := by
  unfold syncSent
  split
  · rename_i hp
    refine keeps_protocol rfl rfl rfl rfl rfl rfl id id id (fun _ => id) (fun _ _ => copyFits_of_phase (by simp))
      (fun _ h => ?_)
    have hr := h.syncing (by rw [hp]; decide)
    obtain ⟨ha, hf⟩ := h.grounded_of_syncing hr
    refine .of_grounded ha hf (fun _ => hr) (fun _ => .inl rfl) (fun ht => ?_)
    have := h.resting ht
    rw [hp] at this
    cases this
  · exact .refl _ s

theorem keeps_enterWaiting {q : Nat} {s : State} (h : syncTaken q s = true) : Keeps s (enterWaiting q s) := by
  have hroom : s.sync.waitList.length < 4 := by
    simp only [syncTaken, Bool.and_eq_true, decide_eq_true_eq] at h
    exact h.2
  have hjoin : Keeps s (s.withSync { s.sync with waitList := s.sync.waitList ++ [q] }) :=
    keeps_withSync s _ rfl rfl rfl rfl rfl (fun _ => by simp; omega) id
  unfold enterWaiting
  dsimp only
  split
  · exact hjoin.trans (keeps_serveNext _)
  · exact hjoin

theorem keeps_takeSync (n q r : Nat) (s : State) : Keeps s (takeSync n q r s) := by
  have hsent : Keeps s (if n = s.strap ∧ q = s.strap then syncSent s else s) := by
    split
    · exact keeps_syncSent s
    · exact .refl _ s
  unfold takeSync
  dsimp only
  generalize (if n = s.strap ∧ q = s.strap then syncSent s else s) = v at *
  split
  · rename_i h
    exact hsent.trans (keeps_enterWaiting h.2)
  · exact hsent

/-! ### The copy (02 R35, R36) -/

theorem keeps_acceptTableStart {s : State} (hp : s.sync.phase = .awaiting) {g : Word} {n : Nat} (hn : n ≤ 24) :
    Keeps s (acceptTableStart g n s) := by
  refine keeps_protocol rfl rfl rfl rfl rfl rfl id id (fun _ => Nat.zero_le _) (fun _ _ => Nat.zero_le _)
    (fun _ _ _ => ⟨rfl, hn⟩) (fun _ h => ?_)
  have hr := h.syncing (by rw [hp]; decide)
  obtain ⟨ha, hf⟩ := h.grounded_of_syncing hr
  refine .of_grounded ha hf (fun _ => hr) (fun _ => .inr rfl) (fun ht => ?_)
  have := h.resting ht
  rw [hp] at this
  cases this

theorem keeps_takeTableStart (n q : Nat) (g : Word) (c : Nat) (s : State) : Keeps s (takeTableStart n q g c s) := by
  have hnext : Keeps s (if n = s.strap then answerNext q 0 s else s) := by
    split
    · exact keeps_answerNext q 0 s
    · exact .refl _ s
  unfold takeTableStart
  dsimp only
  generalize (if n = s.strap then answerNext q 0 s else s) = v at *
  split
  · rename_i h
    simp only [Bool.and_eq_true, decide_eq_true_eq, beq_iff_eq] at h
    exact hnext.trans (keeps_acceptTableStart h.1.2 h.2)
  · exact hnext

/-- An entry in order: its room follows from the copy's count. -/
theorem keeps_copyEntry {s : State} (hp : s.sync.phase = .copying) (k : Key) (b : Box) :
    KeepsBut [.table] s (copyEntry k b s) := by
  refine keeps_protocol rfl rfl rfl rfl rfl rfl id id id (fun h => absurd (by decide) h) (fun _ h _ => ?_)
    (fun _ h => ?_)
  · obtain ⟨h1, h2⟩ := h hp
    exact ⟨by simp [copyEntry, h1], h2⟩
  · have hr := h.syncing (by rw [hp]; decide)
    obtain ⟨ha, hf⟩ := h.grounded_of_syncing hr
    exact .of_grounded ha hf (fun _ => hr) h.attempt h.resting

theorem tableBounded_copyEntry {s : State} (hp : s.sync.phase = .copying) {i : Nat} {k : Key} {b : Box}
    (h : entryInOrder i k b s.sync = true) (hs : TableBounded s) : TableBounded (copyEntry k b s) := by
  obtain ⟨-, hc⟩ := hs
  obtain ⟨h1, h2⟩ := hc hp
  simp only [entryInOrder, Bool.and_eq_true, decide_eq_true_eq] at h
  obtain ⟨⟨⟨-, hlt⟩, -⟩, -⟩ := h
  have hlen : (copyEntry k b s).reg.table.length = s.sync.received + 1 := by simp [copyEntry, h1]
  refine ⟨?_, fun _ => ⟨hlen, h2⟩⟩
  rw [hlen]
  omega

/-! ### Timers and the resync (02 R29, R39, R40) -/

theorem keeps_aloneEnds (s : State) : Keeps s (aloneEnds s) := by
  have hw : Keeps s (s.withSync { s.sync with alone := .expired }) := keeps_withSync s _ rfl rfl rfl rfl rfl id id
  unfold aloneEnds
  split
  · dsimp only
    split
    · rename_i h
      split
      · exact hw.trans (keeps_choice _)
      · exact hw.trans (keeps_startRigAlone h.2)
    · exact hw
  · exact .refl _ s

theorem keeps_attemptEnds (s : State) : Keeps s (attemptEnds s) := by
  unfold attemptEnds
  split
  · rename_i ht
    refine keeps_failAttempt fun h => ?_
    rcases h.attempt ht with hp | hp
    · rw [hp]
      rfl
    · rw [hp]
      rfl
  · exact .refl _ s

theorem keeps_retryEnds (s : State) : Keeps s (retryEnds s) := by
  unfold retryEnds
  split
  · rename_i hy
    refine KeepsBut.trans (t := s.withSync s.sync.newRound) ?_ (keeps_choice _)
    refine keeps_protocol rfl rfl rfl rfl rfl rfl id id id (fun _ => id)
      (fun _ _ => copyFits_of_phase (by simp [SyncUnit.newRound])) (fun _ h => ?_)
    refine .of_idle h.register h.runKey rfl ?_ rfl
    have hp := h.resting hy
    cases ht : s.sync.attemptTimer with
    | none => exact ht
    | some x => exact absurd (h.attempt (by simp [ht])) (by simp [hp])
  · exact .refl _ s

theorem keeps_beginResync (s : State) : Keeps s (beginResync s) := by
  unfold beginResync
  split
  · rename_i hd
    simp only [resyncDue, Bool.and_eq_true, beq_iff_eq] at hd
    obtain ⟨⟨-, hrest⟩, -⟩ := hd
    obtain ⟨ha, hf, -⟩ := AxisState.atRest.ne hrest
    refine ((keeps_endRound s).trans (keeps_setRegister .syncing _ fun _ h => ?_)).trans (keeps_choice _)
    exact setRegister_laws h (fun hx => absurd hx (by simp [ha, hf])) (fun _ => rfl)
  · exact .refl _ s

end Sys2Proof.Machine
end

section
/-! What the evaluation of claims and releases, the discard reports and the owed posts keep. -/

namespace Sys2Proof.Machine

/-! ### The cue unit's part of claims and releases (03 R58, R62, R72 to R74) -/

theorem keeps_reclaimMark (s : State) (v : Reclaim) : Keeps s (s.withCue { s.cue with reclaim := v }) :=
  keeps_withCue s (.of_eq rfl rfl rfl) (fun _ => rfl)

theorem keeps_beginSpaceWait (s : State) : Keeps s (beginSpaceWait s) := by
  unfold beginSpaceWait
  split
  · rename_i c hc
    split
    · exact .refl _ s
    · exact keeps_withCue s ⟨by simp [hc], by simp [hc], id, fun h => .inl ⟨h, id⟩⟩ (fun _ => rfl)
  · exact .refl _ s

theorem keeps_claimNoted (n : Nat) (k : Key) (v : Verdict) (s : State) : Keeps s (claimNoted n k v s) := by
  have hwait : Keeps s (if v.refused && n == s.strap && armedLead s k then beginSpaceWait s else s) := by
    split
    · exact keeps_beginSpaceWait s
    · exact .refl _ s
  unfold claimNoted
  dsimp only
  generalize (if v.refused && n == s.strap && armedLead s k then beginSpaceWait s else s) = u at *
  split
  · exact hwait.trans (keeps_reclaimMark u _)
  · exact hwait

theorem keeps_cueAfterClaim (n : Nat) (k : Key) (v : Verdict) (s : State) : Keeps s (cueAfterClaim n k v s) := by
  rw [cueAfterClaim_eq]
  exact (keeps_claimNoted n k v s).trans (keeps_testStart _)

theorem keeps_retryClaim (s : State) : Keeps s (retryClaim s) := by
  unfold retryClaim
  split
  · split
    · exact keeps_postFor s _ _
    · exact .refl _ s
  · exact .refl _ s

theorem keeps_retryReclaim (s : State) : Keeps s (retryReclaim s) := by
  unfold retryReclaim
  split
  · split
    · exact keeps_post s _
    · exact .refl _ s
  · exact .refl _ s

theorem keeps_clearHeld (k : Key) (s : State) : Keeps s (clearHeld k s) := by
  unfold clearHeld
  split
  · split
    · exact keeps_withCue s (.of_eq rfl rfl rfl) (fun _ => rfl)
    · exact .refl _ s
  · exact .refl _ s

theorem keeps_loseEntry (k : Key) (s : State) : Keeps s (loseEntry k s) := by
  unfold loseEntry
  split
  · split
    · split
      · exact keeps_cutRun (by decide) s
      · split
        · exact keeps_beginSpaceWait s
        · exact .refl _ s
    · exact .refl _ s
  · exact .refl _ s

/-- The end of a RELEASE's part: the retries and the test of the start condition. -/
theorem keeps_retries (s : State) : Keeps s (testStart (retryReclaim (retryClaim s))) :=
  ((keeps_retryClaim s).trans (keeps_retryReclaim _)).trans (keeps_testStart _)

/-! ### The table -/

/-- A change of the table that keeps the key of a run, outside a copy. -/
theorem keeps_withTable {s : State} {r : AirRegister} (hs : r.state = s.reg.state)
    (hl : s.reg.table.length ≤ 24 → r.table.length ≤ 24)
    (hk : AxisLaws s → s.axis.state = .flying → ∀ c, s.cue.current = some c → hasKey s.reg.table c.runKey = true →
      hasKey r.table c.runKey = true) : KeepsBut [.copying] s (s.withReg r) :=
  keeps_protocol rfl rfl rfl rfl rfl rfl id id id (fun _ => hl) (fun h => absurd (by decide) h)
    (fun ha h => h.congr rfl hs (fun _ => rfl) (hk ha) rfl rfl rfl)

theorem claim_length {r : AirRegister} {k : Key} {b : Box} (h : r.table.length ≤ 24) :
    (AirRegister.claim r k b).table.length ≤ 24 := by
  by_cases happ : claimVerdict r.zones r.table k b = .appended
  · have hroom : r.table.length < 24 := by
      by_contra hfull
      have hf : 24 ≤ r.table.length := by omega
      unfold claimVerdict at happ
      split at happ
      · cases happ
      · split at happ
        · unfold resizeVerdict at happ
          split_ifs at happ
        · rw [newVerdict, if_pos (show Config.maxEntries ≤ r.table.length from hf)] at happ
          cases happ
    rw [AirRegister.claim_appended happ]
    simp
    omega
  · by_cases hres : claimVerdict r.zones r.table k b = .resized
    · rw [AirRegister.claim_resized hres]
      simpa [replaceBox_length] using h
    · rw [AirRegister.claim_unchanged happ hres]
      exact h

theorem hasKey_eq (table : List Entry) (k : Key) : hasKey table k = (table.map (·.key)).contains k := by
  rw [Bool.eq_iff_iff, hasKey_iff]
  simp

theorem hasKey_claim {r : AirRegister} {k j : Key} {b : Box} (h : hasKey r.table j = true) :
    hasKey (AirRegister.claim r k b).table j = true := by
  by_cases happ : claimVerdict r.zones r.table k b = .appended
  · rw [AirRegister.claim_appended happ, hasKey_iff]
    obtain ⟨e, he, hj⟩ := (hasKey_iff _ _).mp h
    exact ⟨e, List.mem_append_left _ he, hj⟩
  · by_cases hres : claimVerdict r.zones r.table k b = .resized
    · rw [AirRegister.claim_resized hres, hasKey_eq]
      dsimp only
      rw [replaceBox_keys, ← hasKey_eq, h]
    · rw [AirRegister.claim_unchanged happ hres, h]

theorem claim_state (r : AirRegister) (k : Key) (b : Box) : (AirRegister.claim r k b).state = r.state := rfl

theorem release_length {r : AirRegister} {k : Key} (h : r.table.length ≤ 24) :
    (AirRegister.release r k).table.length ≤ 24 := by
  unfold AirRegister.release
  split
  · exact le_trans (List.eraseP_sublist.length_le) h
  · exact h

theorem release_state (r : AirRegister) (k : Key) : (AirRegister.release r k).state = r.state := by
  unfold AirRegister.release
  split <;> rfl

theorem hasKey_release_other {r : AirRegister} {k j : Key} (h : k ≠ j) (hj : hasKey r.table j = true) :
    hasKey (AirRegister.release r k).table j = true := by
  obtain ⟨e, he, hej⟩ := (hasKey_iff _ _).mp hj
  have hent : hasEntry r.table j e.box = true := by
    rw [hasEntry_iff, ← hej]
    exact he
  rw [← hasEntry_release_other h] at hent
  exact hasKey_of_hasEntry hent

/-! ### Evaluation (01 R7) -/

theorem keeps_evaluateClaim (n : Nat) (k : Key) (b : Box) (s : State) :
    KeepsBut [.copying] s (evaluateClaim n k b s) :=
  (keeps_withTable (claim_state _ k b) claim_length (fun _ _ _ _ h => hasKey_claim h)).trans
    ((keeps_cueAfterClaim n k _ _).but _)

theorem clearHeld_withReg (k : Key) (r : AirRegister) (s : State) :
    clearHeld k (s.withReg r) = (clearHeld k s).withReg r := by
  unfold clearHeld
  cases hc : s.cue.current with
  | none => simp [hc]
  | some c =>
    simp only [State.withReg_cue, hc]
    split <;> rfl

theorem cutRunning_withReg (c : CurrentCue) (x : CutReason) (r : AirRegister) (s : State) :
    cutRunning c x (s.withReg r) = (cutRunning c x s).withReg r := by
  by_cases h : x = .fault ∨ s.axis.state ≠ .flying
  · rw [cutRunning_other c h, cutRunning_other c (s := s.withReg r) h]
    rfl
  · obtain ⟨hx, hf⟩ := not_or.mp h
    rw [not_not] at hf
    rw [cutRunning_flying c hx hf, cutRunning_flying c (s := s.withReg r) hx hf]
    rfl

/-- A RELEASE that removes the run key of a flight cuts it, and may be taken to do so first. -/
theorem keeps_evaluateRelease (k : Key) (s : State) : KeepsBut [.copying] s (evaluateRelease k s) := by
  have hcr : evaluateRelease k s = cueAfterRelease k (hasKey s.reg.table k) (released k s) := rfl
  rw [hcr]
  cases hk : hasKey s.reg.table k with
  | false =>
    rw [show released k s = s from congrArg s.withReg (release_absent hk)]
    exact Keeps.but ((keeps_clearHeld k s).trans (keeps_retries _)) _
  | true =>
    have hother : ((∀ c, s.cue.current = some c → c.phase = .running → c.runKey ≠ k)) →
        KeepsBut [.copying] s (cueAfterRelease k true (released k s)) := fun hne => by
      refine KeepsBut.trans (t := released k s) ?_
        (Keeps.but (((keeps_clearHeld k _).trans (keeps_loseEntry k _)).trans (keeps_retries _)) _)
      refine keeps_withTable (release_state _ k) release_length (fun ha hf c hc hj => ?_)
      obtain ⟨d, hd, hp⟩ := ha.flying.mp hf
      rw [hc] at hd
      cases hd
      exact hasKey_release_other (Ne.symm (hne c hc hp)) hj
    rcases cuePhase_cases s with hc | ⟨c, hc, hp⟩ | ⟨c, hc, hp⟩
    · exact hother fun c h => by
        rw [hc] at h
        cases h
    · exact hother fun d h hd => by
        rw [hc] at h
        cases h
        rw [hp] at hd
        cases hd
    · by_cases hr : c.runKey = k
      · have hw : (clearHeld k s).cue.current = some c := by
          rw [clearHeld_current]
          exact hc
        have hcut : cueAfterRelease k true (released k s)
            = testStart (retryReclaim (retryClaim ((cutRunning c .claimLost (clearHeld k s)).withReg
                (AirRegister.release s.reg k)))) := by
          have hw' : (clearHeld k (released k s)).cue.current = some c := by
            rw [clearHeld_withReg]
            exact hw
          rw [cueAfterRelease_eq, releaseNoted, if_pos rfl, loseEntry_running hw' hp hr, clearHeld_withReg, cutRunning_withReg]
        rw [hcut]
        have hgone : (cutRunning c .claimLost (clearHeld k s)).cue.current = none := by
          rw [cutRunning_cue]
          rfl
        have hreg : (cutRunning c .claimLost (clearHeld k s)).reg = s.reg := by
          rw [show (cutRunning c .claimLost (clearHeld k s)).reg = (clearHeld k s).reg from
            (frame_cutRunning _ _ _).block .reg (by decide)]
          exact (frame_clearHeld k s).block .reg (by decide)
        refine (Keeps.but ((keeps_clearHeld k s).trans (keeps_cutRunning (by decide) hw hp)) _).trans
          (KeepsBut.trans (keeps_withTable ?_ ?_ fun _ _ d hd => ?_) ((keeps_retries _).but _))
        · rw [hreg]
          exact release_state _ k
        · rw [hreg]
          exact release_length
        · rw [hgone] at hd
          cases hd
      · exact hother fun d h _ => by
          rw [hc] at h
          cases h
          exact hr

theorem keeps_evaluateChange (c : Change) (s : State) : KeepsBut [.copying] s (evaluateChange c s) := by
  cases c with
  | claim n k b => exact keeps_evaluateClaim n k b s
  | release n k => exact keeps_evaluateRelease k s

theorem keeps_applyChanges (cs : List Change) (s : State) : KeepsBut [.copying] s (applyChanges cs s) := by
  induction cs generalizing s with
  | nil => exact .refl _ s
  | cons c cs ih => exact (keeps_evaluateChange c s).trans (ih _)

theorem frame_evaluateChange_sync (c : Change) (s : State) : (evaluateChange c s).sync = s.sync := by
  cases c with
  | claim n k b => exact (frame_evaluateClaim n k b s).block .sync (by decide)
  | release n k => exact (frame_evaluateRelease k s).block .sync (by decide)

/-- Outside a copy the evaluation keeps every law. -/
theorem keeps_evaluateChange_live {c : Change} {s : State} (h : s.sync.phase ≠ .copying) :
    Keeps s (evaluateChange c s) :=
  (keeps_evaluateChange c s).restore (copyFits_of_phase (by rw [frame_evaluateChange_sync]; exact h))

theorem failAttempt_live (s : State) : (failAttempt s).sync.phase ≠ .copying := (failAttempt_atEase s).1

theorem keeps_takeChange (c : Change) (s : State) : Keeps s (takeChange c s) := by
  unfold takeChange
  split
  · rename_i hp
    split
    · rename_i hroom
      have hroom' : s.sync.changes.length < 8 := hroom
      exact keeps_withSync s _ rfl rfl rfl rfl rfl id fun _ => by simp; omega
    · exact (keeps_failAttempt fun _ => by rw [hp]; rfl).trans (keeps_evaluateChange_live (failAttempt_live s))
  · rename_i hp
    exact keeps_evaluateChange_live hp

/-! ### The end of a copy (02 R38) -/

theorem becomeCurrent_phase (s : State) : (becomeCurrent s).sync.phase ≠ .copying := by
  unfold becomeCurrent
  rw [setRegister_eq]
  obtain ⟨-, -, hp, -⟩ := syncSetting_fields s.reg.state .current s.sync.endRound
  rw [State.withSync_sync, State.withSync_sync, State.withSync_reg, hp]
  simp [SyncUnit.endRound]

theorem keeps_endCopy {s : State} (hp : s.sync.phase = .copying) (n : Nat) : Keeps s (endCopy n s) := by
  unfold endCopy
  split
  · refine KeepsBut.restore ?_ (copyFits_of_phase (becomeCurrent_phase _))
    refine KeepsBut.trans (t := s.withSync { s.sync with attemptTimer := none }) ?_
      ((keeps_applyChanges _ _).trans ((keeps_becomeCurrent _).but _))
    exact keeps_protocol rfl rfl rfl rfl rfl rfl id id id (fun _ => id) (fun h => absurd (by decide) h)
      (fun _ h => ⟨h.register, h.runKey, h.syncing, fun ht => absurd ht (by simp), h.resting⟩)
  · exact keeps_failAttempt fun _ => by rw [hp]; rfl

theorem keeps_takeTableEnd (n q c : Nat) (s : State) : Keeps s (takeTableEnd n q c s) := by
  have hdone : Keeps s (if n = s.strap then answerDone q s else s) := by
    split
    · exact keeps_answerDone q s
    · exact .refl _ s
  unfold takeTableEnd
  dsimp only
  generalize (if n = s.strap then answerDone q s else s) = v at *
  split
  · rename_i h
    simp only [Bool.and_eq_true, beq_iff_eq] at h
    exact hdone.trans (keeps_endCopy h.2 c)
  · exact hdone

/-! ### Discard reports (07 R148, 03 R70) -/

theorem keeps_owe (o : OutPost) (s : State) : Keeps s (owe o s) := keeps_withCue s (.of_eq rfl rfl rfl) (fun _ => rfl)

theorem keeps_handleReport (o : OutPost) (s : State) : Keeps s (handleReport o s) := by
  rcases handleReport_cases o s with h | ⟨hp, h⟩ | h | ⟨sh, sg, r, h⟩ | h | h
  · rw [h]
    exact .refl _ s
  · rw [h]
    exact keeps_failAttempt fun _ => by rw [hp]; rfl
  · rw [h]
    exact keeps_endAnswer s
  · rw [h]
    exact keeps_dropMatching sh sg r s
  · rw [h]
    exact keeps_dropCue .space true s
  · rw [h]
    exact keeps_owe o s

theorem keeps_trackReclaim (s : State) : Keeps s (trackReclaim s) := by
  obtain ⟨v, h⟩ := trackReclaim_eq s
  rw [h]
  exact keeps_reclaimMark s v

theorem keeps_trackChain (s : State) : Keeps s (trackChain s) := by
  obtain ⟨v, h⟩ := trackChain_eq s
  rw [h]
  exact keeps_withCue s (.of_eq rfl rfl rfl) (fun _ => rfl)

theorem keeps_takeReport (o : OutPost) (os : List OutPost) (s : State) : Keeps s (takeReport o os s) :=
  ((keeps_withLine s { s.line with reports := os } id).trans (keeps_trackReclaim _)).trans (keeps_handleReport o _)

theorem keeps_drainReports (n : Nat) (s : State) : Keeps s (drainReports n s) := by
  induction n generalizing s with
  | zero => exact .refl _ s
  | succ n ih =>
    unfold drainReports
    split
    · exact .refl _ s
    · exact (keeps_takeReport _ _ s).trans (ih _)

/-! ### Owed posts (03 R69, R70) -/

theorem keeps_resend (s : State) (o : OwedPost) : Keeps s (resend s o) := by
  unfold resend
  split
  · exact keeps_postFor s _ _
  · exact .refl _ s

theorem keeps_resendAll (os : List OwedPost) (s : State) : Keeps s (os.foldl resend s) := by
  induction os generalizing s with
  | nil => exact .refl _ s
  | cons o os ih => exact (keeps_resend s o).trans (ih _)

theorem keeps_resendOwed (n : Nat) (s : State) : Keeps s (resendOwed n s) :=
  (keeps_withCue s (v := { s.cue with owed := s.cue.owed.drop n }) (.of_eq rfl rfl rfl) (fun _ => rfl)).trans (keeps_resendAll _ _)

theorem keeps_resendRelease (s : State) : Keeps s (resendRelease s) := by
  have hw : Keeps s (s.withCue { s.cue with owedRelease := none }) := keeps_withCue s (.of_eq rfl rfl rfl) (fun _ => rfl)
  rcases resendRelease_cases s with ⟨-, h⟩ | ⟨k, -, h⟩
  · rw [h]
    exact hw
  · rw [h]
    exact hw.trans (keeps_post _ _)

end Sys2Proof.Machine
end

section
/-! What the events of the line interface and of PRESENCE keep (06, 07). -/

namespace Sys2Proof.Machine

/-! ### Entries into ON, LINE-OFF and DEAF -/

theorem keeps_heard (n : Fin 48) (p : Option Post) (s : State) : Keeps s (heard n p s) :=
  keeps_of_eq rfl rfl rfl rfl rfl rfl rfl rfl fun h => h.afterDelivery _

theorem keeps_enterOn (s : State) : Keeps s (enterOn s) :=
  ((keeps_withLine s { s.line with state := .on, silence := none, onLine := none } id).trans
    (keeps_withSync _ { s.sync with alone := .running } rfl rfl rfl rfl rfl id id)).trans (keeps_askPresence _)

theorem keeps_joinAtPost (s : State) : Keeps s (joinAtPost s) := by
  unfold joinAtPost
  split
  · exact keeps_enterOn s
  · exact keeps_withLine s _ id
  · exact .refl _ s

theorem keeps_enterLineOff (s : State) : Keeps s (enterLineOff s) := by
  unfold enterLineOff
  dsimp only
  refine KeepsBut.trans ?_ (keeps_withRoster _ _)
  refine KeepsBut.trans ?_ ((keeps_abandon _).trans (keeps_clearAnswers _))
  refine KeepsBut.trans (KeepsBut.trans (KeepsBut.trans ?_ (keeps_dropCue .line true _)) (keeps_cutRun (by decide) _))
    (keeps_flush _)
  exact keeps_withLine s _ fun _ => Line.ordered_of_empty rfl

/-- STALE with the round ended and the answers cleared. -/
theorem keeps_goStale (s : State) :
    Keeps s ((setRegister .stale s).withSync (setRegister .stale s).sync.endRound.clearAnswers) := by
  rw [setRegister_eq]
  exact keeps_protocol rfl rfl rfl rfl rfl rfl id (fun _ => Nat.zero_le _) (fun _ => Nat.zero_le _) (fun _ => id)
    (fun _ _ => copyFits_of_phase (by simp [SyncUnit.endRound, SyncUnit.clearAnswers]))
    (fun _ h => .of_idle (fun _ => .inr rfl) h.runKey rfl rfl rfl)

theorem keeps_enterDeaf (s : State) : Keeps s (enterDeaf s) := by
  unfold enterDeaf
  dsimp only
  refine KeepsBut.trans ?_ (keeps_detect _ _)
  refine KeepsBut.trans ?_ (keeps_withCue _ (.of_eq rfl rfl rfl) (fun _ => rfl))
  refine KeepsBut.trans ?_ (keeps_withRoster _ _)
  refine KeepsBut.trans ?_ (keeps_goStale _)
  exact keeps_withLine s _ fun _ => Line.ordered_of_empty rfl

theorem keeps_backOn (s : State) : Keeps s (backOn s) :=
  (keeps_withLine s { s.line with state := .on, txSpoil := 0, offTimer := none } id).trans (keeps_askPresence _)

theorem keeps_returnToOn (s : State) : Keeps s (returnToOn s) := by
  rw [returnToOn_eq]
  exact ((keeps_backOn s).trans (keeps_resendRelease _)).trans (keeps_resendOwed _ _)

/-! ### Posts on the line and the line's timers -/

theorem Line.Ordered.countSpoil {l : Line} (h : l.Ordered) (c : Option SpoilCause) : (countSpoil c l).Ordered := by
  unfold Machine.countSpoil
  dsimp only
  split
  · exact h
  · exact h
  · exact h
  · exact h

theorem keeps_spoilLimits (l : Line) (s : State) : Keeps s (spoilLimits l s) := by
  have hoff : Keeps s (if s.line.txSpoil ≠ l.txSpoil ∧ Config.spoilLimit ≤ s.line.txSpoil then enterLineOff s else s) := by
    split
    · exact keeps_enterLineOff s
    · exact .refl _ s
  unfold spoilLimits
  dsimp only
  generalize (if s.line.txSpoil ≠ l.txSpoil ∧ Config.spoilLimit ≤ s.line.txSpoil then enterLineOff s else s) = v at *
  split
  · exact hoff.trans (keeps_enterDeaf v)
  · exact hoff

theorem keeps_spoil (c : Option SpoilCause) (s : State) : Keeps s (spoil c s) := by
  have hcount : Keeps s (spoilLimits s.line (s.withLine (countSpoil c s.line))) :=
    (keeps_withLine s _ fun h => h.countSpoil c).trans (keeps_spoilLimits _ _)
  unfold spoil
  split
  · exact hcount
  · exact hcount
  · split
    · exact .refl _ s
    · exact keeps_withLine s _ id
  · exact .refl _ s
  · exact .refl _ s

theorem keeps_stampQueued (a : Nat) (s : State) : Keeps s (stampQueued a s) := by
  unfold stampQueued
  split
  · refine KeepsBut.trans (t := s.withLine { s.line with
      queue := s.line.queue.map (fun o => if o.age = a then { o with post := stampTableStart s.reg o.post } else o) })
      (keeps_withLine s _ fun h => h.of_sublist ?_ (Nat.le_refl _)) (keeps_answers _ s.sync.waitList _ id)
    have hages : (s.line.queue.map fun o => if o.age = a then { o with post := stampTableStart s.reg o.post } else o).map
        (·.age) = s.line.queue.map (·.age) := by
      rw [List.map_map]
      refine List.map_congr_left fun o _ => ?_
      rw [Function.comp_apply]
      split <;> rfl
    rw [hages]
  · exact .refl _ s

theorem keeps_beginOwn (r : OutRef) (s : State) : Keeps s (beginOwn r s) := by
  have hl : Keeps s (s.withLine { s.line with onLine := some (.own r) }) := keeps_withLine s _ id
  cases r with
  | queued a => exact hl.trans (keeps_stampQueued a _)
  | slot => exact hl.trans (keeps_withLine _ _ id)

theorem keeps_beginOther (s : State) : Keeps s (beginOther s) := by
  unfold beginOther
  split
  · exact keeps_withLine s _ id
  · exact keeps_withLine s _ id
  · split
    · exact .refl _ s
    · exact keeps_withLine s _ id
  · exact .refl _ s
  · exact .refl _ s

theorem keeps_contend (cs : List Contender) (s : State) : Keeps s (contend cs s) := by
  unfold contend
  split
  · exact .refl _ s
  · split
    · split
      · exact keeps_beginOwn _ s
      · exact keeps_beginOther s
    · split
      · exact .refl _ s
      · exact keeps_beginOther s

theorem keeps_lineOffEnds (s : State) : Keeps s (lineOffEnds s) := by
  unfold lineOffEnds
  split
  · exact keeps_returnToOn s
  · exact .refl _ s

theorem keeps_silenceEnds (s : State) : Keeps s (silenceEnds s) := by
  unfold silenceEnds
  split
  · exact keeps_enterOn s
  · exact .refl _ s

theorem Line.Ordered.loseTrack {l : Line} (h : l.Ordered) : (Line.loseTrack l).Ordered := by
  by_cases ho : l.onLine = some .other
  · rw [Line.loseTrack_other ho]
    exact h
  · rw [Line.loseTrack_same ho]
    exact h

theorem keeps_seeIdle (s : State) : Keeps s (seeIdle s) := by
  unfold seeIdle
  split
  · exact keeps_withLine s _ fun h => h.loseTrack
  · exact keeps_withLine s _ fun h => h.loseTrack
  · split
    · exact .refl _ s
    · exact keeps_withLine s _ fun h => h.loseTrack
  · exact .refl _ s
  · exact .refl _ s

theorem keeps_presenceDue (s : State) : Keeps s (presenceDue s) := by
  unfold presenceDue
  split
  · exact (keeps_withRoster s _).trans (keeps_askPresence _)
  · exact .refl _ s

/-! ### PRESENCE and lapse (06) -/

theorem keeps_judgeDivergence (s : State) : Keeps s (judgeDivergence s) := by
  unfold judgeDivergence
  split
  · rename_i h
    exact (keeps_leaveCurrent h.1).trans (keeps_notice _ _ _ _ _)
  · exact .refl _ s

theorem keeps_seeWinch (n : Nat) (s : State) : Keeps s (seeWinch n s) := by
  unfold seeWinch
  split
  · exact keeps_withSync s _ rfl rfl rfl rfl rfl id id
  · exact .refl _ s

theorem keeps_watchSkew (n : Nat) (s : State) : Keeps s (watchSkew n s) := by
  unfold watchSkew
  split
  · exact (keeps_withRoster s _).trans (keeps_post _ _)
  · exact .refl _ s

theorem keeps_watchShowStop (n : Nat) (s : State) : Keeps s (watchShowStop n s) := by
  unfold watchShowStop
  split
  · exact keeps_post s _
  · exact .refl _ s

theorem keeps_takePresence (n : Fin 48) (p : Presence) (s : State) : Keeps s (takePresence n p s) := by
  have hseen : Keeps s (seeWinch n.val (recordPresence n p s)) := (keeps_withRoster s _).trans (keeps_seeWinch _ _)
  unfold takePresence
  dsimp only
  generalize seeWinch n.val (recordPresence n p s) = v at *
  have hown : Keeps s (if n.val = s.strap then ownPresence v else v) := by
    split
    · exact hseen.trans ((keeps_withRoster v _).trans (keeps_judgeDivergence _))
    · exact hseen
  generalize (if n.val = s.strap then ownPresence v else v) = w at *
  exact ((hown.trans (keeps_choice w)).trans (keeps_watchSkew _ _)).trans (keeps_watchShowStop _ _)

/-- A slot of the set ready table takes a value. -/
theorem keeps_putSlot (m : Nat) (v : Option (Nat × Nat)) (s : State) : Keeps s (s.putSlot m v) := by
  refine keeps_withCue s (.of_eq rfl rfl rfl) fun h => ?_
  have hfit : s.cue.slots.length = s.members.length := h
  simp [setSlot, hfit]

theorem keeps_lapseStation (n : Fin 48) (s : State) : Keeps s (lapseStation n s) := by
  unfold lapseStation
  split
  · dsimp only
    split
    · refine (keeps_withRoster s (Roster.put s.roster n RosterEntry.absent)).trans ?_
      unfold memberLapses
      dsimp only
      split
      · exact (keeps_putSlot _ _ _).trans (keeps_post _ _)
      · exact keeps_putSlot _ _ _
    · exact keeps_withRoster s _
  · exact .refl _ s

end Sys2Proof.Machine
end

section
/-! What the posts of cues, the waits and the taking of a cue keep (03). -/

namespace Sys2Proof.Machine

/-! ### HALT and CLEAR-STOP -/

theorem keeps_cueEnded {r : CutReason} (hr : r ≠ .fault) (s : State) : Keeps s (cueEnded r s) :=
  ((keeps_dropCue r true s).trans (keeps_cutRun hr _)).trans (keeps_flush _)

theorem keeps_takeHalt (scope : Nat) (s : State) : Keeps s (takeHalt scope s) := by
  have hend : Keeps s (flush (stopCue s)) := keeps_cueEnded (by decide) s
  unfold takeHalt
  split
  · exact .refl _ s
  · dsimp only
    split
    · obtain ⟨hq, hc, -⟩ := cueEnded_cue .halt s
      refine hend.trans (keeps_withCue _ ⟨rfl, rfl, id, fun _ => .inr ⟨hq, hc⟩⟩ (fun _ => rfl))
    · exact hend

theorem keeps_takeClearStop (s : State) : Keeps s (takeClearStop s) :=
  (keeps_withCue s (v := { s.cue with showStop := false }) ⟨rfl, rfl, id, fun h => absurd h (by simp)⟩
    (fun _ => rfl)).trans
    (keeps_withdraw _ _)

/-! ### The queue: CUE, DROP and DONE -/

theorem cueRefusal_none {sh sg : Nat} {s : State} (h : cueRefusal sh sg s = none) :
    s.cue.showStop = false ∧ s.cue.queue.length < 8 := by
  unfold cueRefusal at h
  split_ifs at h with h1 h2 h3 h4 h5 h6
  have hlen : ¬8 ≤ s.cue.queue.length := h5
  exact ⟨by simpa using h2, by omega⟩

theorem keeps_takeCuePost (e : CueEntry) (s : State) : Keeps s (takeCuePost e s) := by
  unfold takeCuePost
  split
  · split
    · exact keeps_notice s _ _ _ _
    · rename_i hr
      obtain ⟨hstop, hroom⟩ := cueRefusal_none hr
      refine keeps_withCue s ⟨rfl, rfl, fun _ => ?_, fun h => ?_⟩ (fun _ => rfl)
      · simp
        omega
      · rw [show ({ s.cue with queue := s.cue.queue ++ [e] } : CueUnit).showStop = s.cue.showStop from rfl, hstop] at h
        cases h
  · exact .refl _ s

/-- An update of the cue queue and its chain delay that makes the queue no longer. -/
theorem keeps_withQueue (s : State) (q : List CueEntry) (d : Timer) (hq : q.length ≤ s.cue.queue.length) :
    Keeps s (s.withCue { s.cue with queue := q, chainDelay := d }) :=
  keeps_withCue s ⟨rfl, rfl, fun h => hq.trans h, fun h => .inl ⟨h, fun he => by
    rw [he] at hq
    exact List.eq_nil_of_length_eq_zero (Nat.le_zero.mp hq)⟩⟩ (fun _ => rfl)

theorem keeps_removeQueued (sh sg : Nat) (s : State) : Keeps s (removeQueued sh sg s) :=
  keeps_withQueue s _ _ (List.length_filter_le _ _)

theorem keeps_tooLate (n sh sg : Nat) (s : State) : Keeps s (tooLate n sh sg s) := by
  unfold tooLate
  split
  · split
    · exact keeps_notice s _ _ _ _
    · exact .refl _ s
  · exact .refl _ s

theorem keeps_takeDrop (n f sh sg : Nat) (s : State) : Keeps s (takeDrop n f sh sg s) := by
  unfold takeDrop
  split
  · exact ((keeps_removeQueued sh sg s).trans (keeps_dropMatching _ _ _ _)).trans (keeps_tooLate _ _ _ _)
  · exact .refl _ s

theorem keeps_takeDone (n sg : Nat) (s : State) : Keeps s (takeDone n sg s) :=
  keeps_withQueue s _ s.cue.chainDelay (by rw [List.length_map])

/-! ### READY, UNREADY and CUT -/

theorem keeps_startReadyWait (sh sg : Nat) (s : State) : Keeps s (startReadyWait sh sg s) := by
  unfold startReadyWait
  split
  · split
    · exact keeps_withCue s (.of_eq rfl rfl rfl) (fun _ => rfl)
    · exact .refl _ s
  · exact .refl _ s

theorem keeps_recordReady (n sh sg : Nat) (s : State) : Keeps s (recordReady n sh sg s) := by
  unfold recordReady
  dsimp only
  split
  · exact (keeps_putSlot _ _ s).trans (keeps_startReadyWait _ _ _)
  · exact keeps_putSlot _ _ s

theorem keeps_takeReady (n f sh sg : Nat) (ms : List Nat) (s : State) : Keeps s (takeReady n f sh sg ms s) := by
  unfold takeReady
  refine KeepsBut.trans ?_ (keeps_testStart _)
  split
  · split
    · exact keeps_recordReady n sh sg s
    · exact (keeps_notice s _ _ _ _).trans (keeps_dropMatching _ _ _ _)
  · exact .refl _ s

theorem keeps_takeUnready (n sh sg : Nat) (s : State) : Keeps s (takeUnready n sh sg s) := by
  unfold takeUnready
  split
  · dsimp only
    split
    · exact (keeps_putSlot _ _ s).trans (keeps_dropMatching _ _ _ _)
    · exact keeps_putSlot _ _ s
  · exact .refl _ s

theorem keeps_spaceCut (n sg : Nat) (s : State) : Keeps s (spaceCut n sg s) := by
  unfold spaceCut
  split
  · split
    · exact keeps_dropCue _ _ s
    · exact .refl _ s
  · exact .refl _ s

theorem keeps_takeCut (n sg r : Nat) (s : State) : Keeps s (takeCut n sg r s) := by
  unfold takeCut
  split
  · dsimp only
    split
    · exact (keeps_putSlot _ _ s).trans (keeps_spaceCut _ _ _)
    · exact keeps_putSlot _ _ s
  · exact .refl _ s

/-! ### The waits -/

theorem keeps_readyWaitEnds (s : State) : Keeps s (readyWaitEnds s) := by
  have hw : Keeps s (s.withCue { s.cue with readyWait := none }) := keeps_withCue s (.of_eq rfl rfl rfl) (fun _ => rfl)
  unfold readyWaitEnds
  split
  · dsimp only
    split
    · split
      · exact hw.trans (keeps_post _ _)
      · exact hw
    · exact hw
  · exact .refl _ s

theorem keeps_spaceWaitEnds (s : State) : Keeps s (spaceWaitEnds s) := by
  have hw : Keeps s (s.withCue { s.cue with spaceWait := none }) := keeps_withCue s (.of_eq rfl rfl rfl) (fun _ => rfl)
  unfold spaceWaitEnds
  split
  · dsimp only
    split
    · split
      · exact hw.trans (keeps_postFor _ _ _)
      · exact hw
    · exact hw
  · exact .refl _ s

/-! ### The re-claim (03 R74) -/

theorem keeps_postReclaim (s : State) : Keeps s (postReclaim s) := by
  unfold postReclaim
  split
  · split
    · exact (keeps_reclaimMark s _).trans (keeps_post _ _)
    · exact .refl _ s
  · exact .refl _ s

/-! ### Taking a cue (03 R50 to R53) -/

theorem headEligible_rests {s : State} (h : headEligible s = true) :
    AxisState.atRest s.axis.state = true ∧ s.reg.state = .current ∧ s.cue.showStop = false
      ∧ s.store.copy.isSome = false := by
  unfold headEligible at h
  split at h
  · cases h
  · simp only [Bool.and_eq_true, beq_iff_eq, Bool.not_eq_true'] at h
    obtain ⟨⟨⟨⟨⟨⟨hx, hr⟩, hs⟩, hc⟩, -⟩, -⟩, -⟩ := h
    exact ⟨hx, hr, hs, by simpa using hc⟩

theorem axisLaws_armed {c : CurrentCue} {s : State} (hc : c.phase = .armed) (he : headEligible s = true)
    (h : AxisLaws s) : AxisLaws (armedState c s) := by
  obtain ⟨hrest, -, hstop, -⟩ := headEligible_rests he
  obtain ⟨hna, hnf, hns, hnu, hnl, -⟩ := AxisState.atRest.ne hrest
  have hcur : (armedState c s).cue.current = some c := rfl
  have hx : (armedState c s).axis.state = .armed := rfl
  exact
    { armed := iff_of_true hx ((currentIs_iff hcur _).mpr hc)
      flying := iff_of_false (by rw [hx]; decide) (by rw [currentIs_iff hcur, hc]; decide)
      engine := iff_of_false (by rw [hx]; decide) (fun hn => hn (h.engine_idle hnf))
      origin := fun o ho => by
        cases ho
        exact hrest
      faulted := iff_of_false (by rw [hx]; decide) (by
        rw [show (armedState c s).axis.faults = s.axis.faults from rfl, h.faults_empty hnu]
        decide)
      brake := fun _ _ _ => h.brake hnf hns hnl
      lockKept := fun hl => by
        have hl' : s.lock.copy.isSome = true := hl
        rw [h.lock_free hnl hnu] at hl'
        cases hl'
      locked := fun hl => absurd (hx.symm.trans hl) (by decide)
      showStop := fun hs => by
        have hs' : s.cue.showStop = true := hs
        rw [hstop] at hs'
        cases hs' }

/-- The cue armed keeps all but, perhaps, what a lock's write not yet asked for wants. -/
theorem keeps_armedState {c : CurrentCue} {s : State} (hc : c.phase = .armed) (he : headEligible s = true) :
    KeepsBut [.asked] s (armedState c s) := by
  obtain ⟨hrest, hreg, -, hcopy⟩ := headEligible_rests he
  exact
    { memory := id
      line := fun h => h.entering _ _
      cues := fun h => le_trans (by simp [armedState, CueUnit.armed]) h
      waiting := id
      changes := id
      table := fun _ => id
      copying := fun _ => id
      slots := fun h => by
        have hfit : s.cue.slots.length = s.members.length := h
        have hlen : (armedState c s).cue.slots.length = s.members.length := by
          simp [armedState, CueUnit.armed, setSlot, hfit]
        exact hlen
      axis := axisLaws_armed hc he
      register := fun _ h =>
        { register := fun _ => .inl hreg
          runKey := fun hf => absurd hf (by simp [armedState])
          syncing := h.syncing
          attempt := h.attempt
          resting := h.resting }
      records := fun _ h => h.axisMoved rfl rfl (fun hp => absurd hp (by simp [armedState]))
        (fun hs => absurd hs (by simp [hcopy]))
      asked := fun hx => absurd (by decide) hx
      stored := fun _ _ => id }

theorem keeps_armPosts (c : CurrentCue) (s : State) : Keeps s (armPosts c s) := by
  rw [armPosts_eq]
  split
  · exact (keeps_post s _).trans (keeps_postFor _ _ _)
  · exact keeps_post s _

theorem keeps_arm {s : State} (he : headEligible s = true) (h : CueEntry) : KeepsBut [.asked] s (arm h s) := by
  rw [arm_eq]
  exact (keeps_armedState rfl he).trans ((keeps_armPosts _ _).but _)

theorem keeps_popHead (s : State) : Keeps s (popHead s) := keeps_withQueue s _ none (by simp)

theorem keeps_takeHead {s : State} (he : headEligible s = true) (h : CueEntry) :
    KeepsBut [.asked] s (takeHead h s) := by
  unfold takeHead
  split
  · exact Keeps.but ((keeps_popHead s).trans (keeps_notice _ _ _ _ _)) _
  · exact keeps_arm he h

theorem keeps_takeUntriggered (s : State) : KeepsBut [.asked] s (takeUntriggered s) := by
  unfold takeUntriggered
  split
  · split
    · rename_i h
      exact keeps_takeHead (Bool.and_eq_true_iff.mp h).1 _
    · exact .refl _ s
  · exact .refl _ s

theorem keeps_chainEnds (s : State) : KeepsBut [.asked] s (chainEnds s) := by
  unfold chainEnds
  split
  · split
    · rename_i h
      exact keeps_takeHead (Bool.and_eq_true_iff.mp h).2 _
    · exact .refl _ s
  · exact .refl _ s

end Sys2Proof.Machine
end

section
/-! What the samples of the axis, the end of a step, the brake's confirmation, ACK and the rigging lock keep (04, 05, 10). -/

namespace Sys2Proof.Machine

section
variable (s : State) (a : AxisState)

@[simp] theorem enterAxis_cfg : (s.enterAxis a).cfg = s.cfg := by rw [enterAxis_eq]; rfl
@[simp] theorem enterAxis_reg : (s.enterAxis a).reg = s.reg := by rw [enterAxis_eq]; rfl
@[simp] theorem enterAxis_sync : (s.enterAxis a).sync = s.sync := by rw [enterAxis_eq]; rfl
@[simp] theorem enterAxis_lock : (s.enterAxis a).lock = s.lock := by rw [enterAxis_eq]; rfl

end

/-! ### The engine's work -/

/-- An update of the engine that leaves it idle, or at work, as the laws of the axis have it. -/
theorem keeps_withEngine_of (s : State) (e : Engine)
    (h : AxisLaws s → (e.state = .idle ↔ s.engine.state = .idle)) : Keeps s (s.withEngine e) where
  memory := id
  line := id
  cues := id
  waiting := id
  changes := id
  table _ := id
  copying _ := id
  slots := id
  axis ha := ha.congr rfl (.inl rfl) rfl (fun _ _ _ => id) rfl (h ha) rfl ha.showStop
  register _ h := ⟨h.register, h.runKey, h.syncing, h.attempt, h.resting⟩
  records _ h := h.congr rfl rfl rfl
  asked _ _ _ h := h.congr rfl id
  stored _ _ := id

theorem Engine.stepEnd_idle (ws : List Word) (e : Engine) (h : e.state ≠ .idle) :
    (Engine.stepEnd ws e).state ≠ .idle := by
  rcases Engine.stepEnd_cases ws e with ⟨-, hs⟩ | ⟨-, hs, -⟩
  · rw [hs]
    exact fun hn => absurd hn (by simp [Engine.lastStep])
  · rw [hs]
    exact h

theorem sampledBy_idle_iff (s : State) : (sampledBy s).state = .idle ↔ s.engine.state = .idle := by
  cases hs : s.engine.state with
  | idle => rw [sampledBy_idle hs, hs]
  | settling => rw [sampledBy_settling hs, sampledEngine, hs]
  | playing =>
    refine iff_of_false ?_ (by simp)
    rw [sampledBy_playing hs]
    have he : (sampledEngine s).state ≠ .idle := by simp [sampledEngine, hs]
    split
    · exact Engine.stepEnd_idle _ _ he
    · exact he

/-- An engine at work belongs to a run in progress, so that there is a run to complete (04 R78). -/
theorem AxisLaws.running {s : State} (h : AxisLaws s) (he : s.engine.state ≠ .idle) : currentIs .running s :=
  h.flying.mp (h.engine.mpr he)

theorem keeps_testCompletion (s : State) : Keeps s (testCompletion s) := by
  unfold testCompletion
  split
  · rename_i hc
    have he : s.engine.state ≠ .idle := fun hn => by simp [Engine.completes, hn] at hc
    by_cases hr : currentIs .running s
    · obtain ⟨c, hcur, hp⟩ := hr
      exact keeps_completeRun hcur hp
    · rcases completeRun_cases s with hrun | hidle
      · exact absurd hrun hr
      · rw [hidle]
        exact keeps_withEngine_of s _ (fun ha => absurd (ha.running he) hr)
  · exact .refl _ s

theorem keeps_engineStage (s : State) : Keeps s (engineStage s) :=
  (keeps_withEngine s (sampledBy s) (sampledBy_idle_iff s)).trans (keeps_testCompletion _)

theorem keeps_endStep (s : State) : Keeps s (endStep s) := by
  unfold endStep
  split
  · rename_i hp
    refine KeepsBut.trans (keeps_withEngine s _ (iff_of_false ?_ (by simp [hp]))) (keeps_testCompletion _)
    exact Engine.stepEnd_idle _ _ (by simp [hp])
  · exact .refl _ s
  · exact .refl _ s

/-! ### The work of the axis state -/

/-- Outside ARMED and FLYING there is no current cue (03 R46). -/
theorem AxisLaws.no_current {s : State} (h : AxisLaws s) (ha : s.axis.state ≠ .armed) (hf : s.axis.state ≠ .flying) :
    s.cue.current = none := by
  cases hc : s.cue.current with
  | none => rfl
  | some c =>
    cases hp : c.phase with
    | armed => exact absurd (h.state_of_armed hc hp) ha
    | running => exact absurd (h.state_of_running hc hp) hf

/-- The axis comes to rest from a state without a current cue (05 R104, R115, R116). -/
theorem AxisLaws.come_to_rest {s t : State} {b : AxisState} (h : AxisLaws s) (ha : s.axis.state ≠ .armed)
    (hf : s.axis.state ≠ .flying) (hrest : AxisState.atRest b = true) (hb : t.axis.state = b)
    (ho : t.axis.origin = s.axis.origin) (he : t.engine = s.engine) (hc : t.cue = s.cue)
    (hk : FaultSet.isEmpty t.axis.faults = true) (hbr : braked t) (hl : t.lock.copy = none) : AxisLaws t := by
  refine .of_rest (hb ▸ hrest) (by rw [hc]; exact h.no_current ha hf) (by rw [he]; exact h.engine_idle hf)
    (by rw [ho]; exact h.origin) hk hbr hl (fun hs => ?_)
  rw [hc] at hs ⊢
  exact (h.showStop hs).2.2

/-- The rest state an axis comes to keeps the laws. -/
theorem keeps_comeToRest (s : State) (x : Axis) {b : AxisState} (hx : x.state = s.axis.state)
    (ha : s.axis.state ≠ .armed) (hf : s.axis.state ≠ .flying) (hrest : AxisState.atRest b = true)
    (ho : x.origin = s.axis.origin) (hbr : AxisLaws s → x.brake = .set ∧ x.demand = 0)
    (hk : AxisLaws s → FaultSet.isEmpty x.faults = true) (hl : AxisLaws s → s.lock.copy = none) :
    Keeps s ((s.withAxis x).enterAxis b) := by
  obtain ⟨hba, hbf, -⟩ := AxisState.atRest.ne hrest
  refine keeps_entering (b := b) (by simp [hx]) (by simp) (fun _ => ⟨hba, hbf⟩) (fun h => ?_) (by simp) (by simp)
    (fun h => ?_) (by simp) (by simp) (by simp) (by simp)
  · rw [enterAxis_line]
    exact h.entering _ _
  · exact h.come_to_rest ha hf hrest (by simp) (by simpa using ho) (by simp) (by simp) (by simpa using hk h)
      (by simpa [braked] using hbr h) (by simpa using hl h)

theorem Axis.ramped_kept (x : Axis) (d : Int) :
    (x.ramped d).origin = x.origin ∧ (x.ramped d).faults = x.faults := by
  unfold Axis.ramped
  split
  · simp [Axis.command_origin, Axis.command_faults]
  · exact ⟨rfl, rfl⟩

theorem keeps_stoppingStage {s : State} (hx : s.axis.state = .stopping) : Keeps s (stoppingStage s) := by
  cases hb : s.axis.brake with
  | released =>
    rw [stoppingStage_ramp hb]
    obtain ⟨ho, hf⟩ := Axis.ramped_kept s.axis (rampStep s.axis.demand s.conf.stopDecel)
    refine keeps_withAxis s _ (Axis.ramped_state _ _) ho hf (fun _ hn => absurd ?_ hn)
    rw [Axis.ramped_state, hx]
  | set =>
    cases hi : s.axis.inputs.feedback with
    | released =>
      rw [stoppingStage_wait hb hi]
      exact keeps_withAxis s _ rfl rfl rfl (fun _ _ _ hset _ => ⟨hset, rfl⟩)
    | set =>
      rw [stoppingStage_stopped hb hi]
      have hne : ∀ a, a ≠ .stopping → s.axis.state ≠ a := fun a ha h => ha (h ▸ hx)
      exact keeps_comeToRest s _ rfl (hne _ (by decide)) (hne _ (by decide)) (restByHaul_rest s rfl) rfl
        (fun _ => ⟨hb, rfl⟩) (fun h => h.faults_empty (hne _ (by decide)))
        (fun h => h.lock_free (hne _ (by decide)) (hne _ (by decide)))

theorem Axis.jogged_kept (x : Axis) (d : Brake × Int) :
    (x.jogged d).origin = x.origin ∧ (x.jogged d).faults = x.faults := by
  unfold Axis.jogged
  exact ⟨Axis.command_origin _ _, Axis.command_faults _ _⟩

theorem keeps_stateStage (s : State) : Keeps s (stateStage s) := by
  by_cases hf : s.axis.state = .flying
  · rw [stateStage_flying hf]
    exact keeps_withAxis s _ rfl rfl rfl (fun hn => absurd hf hn)
  by_cases hst : s.axis.state = .stopping
  · rw [stateStage_stopping hst]
    exact keeps_stoppingStage hst
  by_cases hl : s.axis.state = .locked
  · rw [stateStage_locked hl]
    obtain ⟨ho, hk⟩ := Axis.jogged_kept s.axis (jogDecision s.conf.groundBand s.axis.inputs)
    exact keeps_withAxis s _ (Axis.jogged_state _ _) ho hk
      (fun _ _ hn => absurd ((Axis.jogged_state _ _).trans hl) hn)
  · rw [stateStage_standing hf hst hl]
    exact keeps_withAxis s _ rfl rfl rfl (fun _ _ _ hset _ => ⟨hset, rfl⟩)

/-! ### The sample and the brake's confirmation -/

theorem keeps_sample (i : WinchInputs) (s : State) : Keeps s (sample i s) := by
  have hread : Keeps s (s.withAxis (readInputs i s.axis)) :=
    keeps_withAxis s _ rfl rfl rfl (fun _ _ _ hb hd => ⟨hb, hd⟩)
  by_cases hu : s.axis.state = .unconfigured
  · rw [show sample i s = s from if_pos hu]
    exact .refl _ s
  · rw [sample_eq i hu]
    have hwork : Keeps s (sampleWork i s) := (hread.trans (keeps_engineStage _)).trans (keeps_stateStage _)
    exact (hwork.trans (keeps_detect _ _)).trans (keeps_withAxis _ _ rfl rfl rfl (fun _ _ _ hb hd => ⟨hb, hd⟩))

theorem keeps_confirmBrake (s : State) : Keeps s (confirmBrake s) := by
  unfold confirmBrake
  split
  · refine (keeps_withAxis s { s.axis with brakeTimer := some 0 } rfl rfl rfl ?_).trans (keeps_detect _ _)
    exact fun _ _ _ hb hd => ⟨hb, hd⟩
  · exact .refl _ s
  · exact .refl _ s

/-! ### ACK (05 R114, R115) -/

theorem keeps_lessened {ks : FaultSet} {s : State} (hx : s.axis.state = .faulted)
    (hl : FaultSet.isEmpty (acked ks s) = false) : Keeps s (lessened ks s) := by
  refine .trans (t := s.withAxis { s.axis with faults := acked ks s }) ?_ (keeps_askPresence _)
  refine keeps_entering (b := .faulted) (by simp [storeEntering_of_ne]) hx (fun _ => by decide) id (Nat.le_refl _)
    rfl (fun h => ?_) rfl rfl rfl rfl
  exact ⟨h.armed, h.flying, h.engine, h.origin, iff_of_true hx hl, h.brake, h.lockKept, h.locked, h.showStop⟩

/-- FAULTED is left for LOCKED where the lock is kept (05 R115). -/
theorem AxisLaws.locking {s t : State} (h : AxisLaws s) (ha : s.axis.state ≠ .armed) (hf : s.axis.state ≠ .flying)
    (hb : t.axis.state = .locked) (ho : t.axis.origin = s.axis.origin) (he : t.engine = s.engine)
    (hc : t.cue.current = s.cue.current) (hs : t.cue.showStop = true → t.cue.queue = [])
    (hk : FaultSet.isEmpty t.axis.faults = true) (hl : t.lock.copy.isSome = true) : AxisLaws t := by
  have hcur : t.cue.current = none := hc.trans (h.no_current ha hf)
  exact
    { armed := iff_of_false (by rw [hb]; decide) (currentIs_none hcur _)
      flying := iff_of_false (by rw [hb]; decide) (currentIs_none hcur _)
      engine := iff_of_false (by rw [hb]; decide) (fun hn => hn (he ▸ h.engine_idle hf))
      origin := by rw [ho]; exact h.origin
      faulted := iff_of_false (by rw [hb]; decide) (by rw [hk]; decide)
      brake := fun _ _ hn => absurd hb hn
      lockKept := fun _ => .inl hb
      locked := fun _ => hl
      showStop := fun h => ⟨by rw [hb]; decide, by rw [hb]; decide, hs h⟩ }

theorem keeps_takeAck (target : Nat) (ks : FaultSet) (s : State) : Keeps s (takeAck target ks s) := by
  by_cases ht : target = s.strap
  swap
  · rw [takeAck_other ht]
    exact .refl _ s
  by_cases hx : s.axis.state = .faulted
  swap
  · rw [show takeAck target ks s = s from if_neg (fun h => hx h.2.1)]
    exact .refl _ s
  by_cases hsame : acked ks s = s.axis.faults
  · rw [takeAck_same hsame]
    exact .refl _ s
  subst ht
  have hna : s.axis.state ≠ .armed := by rw [hx]; decide
  have hnf : s.axis.state ≠ .flying := by rw [hx]; decide
  cases hl : FaultSet.isEmpty (acked ks s) with
  | false =>
    rw [takeAck_left hx hsame hl]
    exact keeps_lessened hx hl
  | true =>
    rw [takeAck_cleared hx hsame hl]
    have hline : ∀ b, s.line.Ordered → ((lessened ks s).enterAxis b).line.Ordered := fun b h => by
      rw [enterAxis_line]
      exact Line.Ordered.entering h.requestPresence _ _
    by_cases hlock : s.lock.copy.isSome = true
    · rw [if_pos hlock]
      refine keeps_entering (b := .locked) (by simp [lessened]) (by simp) (fun _ => by decide) (hline _)
        (by simp [lessened]) (by simp [lessened]) (fun h => ?_) (by simp [lessened]) (by simp [lessened])
        (by simp [lessened]) (by simp [lessened])
      exact h.locking hna hnf (by simp) (by simp [lessened]) (by simp [lessened]) (by simp [lessened])
        (fun hs => by simpa [lessened] using (h.showStop (by simpa [lessened] using hs)).2.2)
        (by simpa [lessened] using hl) (by simpa [lessened] using hlock)
    · rw [if_neg hlock]
      have hrest := restByHaul_rest s (a := .holding) rfl
      rw [restByHaul_eq] at hrest
      obtain ⟨hba, hbf, -⟩ := AxisState.atRest.ne hrest
      refine keeps_entering (by simp [lessened]) (by simp) (fun _ => ⟨hba, hbf⟩) (hline _) (by simp [lessened])
        (by simp [lessened]) (fun h => ?_) (by simp [lessened]) (by simp [lessened]) (by simp [lessened])
        (by simp [lessened])
      refine h.come_to_rest hna hnf hrest (by simp) (by simp [lessened]) (by simp [lessened]) (by simp [lessened])
        (by simpa [lessened] using hl) ?_ (by simpa [lessened] using hlock)
      have hbr : braked s := h.brake hnf (by rw [hx]; decide) (by rw [hx]; decide)
      simpa [braked, lessened] using hbr

/-! ### The rigging lock (10 R178 to R181) -/

/-- The lock copy is taken up: it, the record's target and the axis state change (10 R178, R179). -/
def lockTaken (code : Word) (s : State) : State := (s.setLock (some code)).enterAxis .locked

section
variable (code : Word) (s : State)

theorem lockTaken_store : (lockTaken code s).store = { s.store with lockRec := ⟨s.store.lockRec.stored, some code⟩ } := by
  simp [lockTaken, State.setLock, storeEntering_of_ne]
theorem lockTaken_lock : (lockTaken code s).lock = ⟨some code⟩ := by simp [lockTaken, State.setLock]
theorem lockTaken_axis : (lockTaken code s).axis = { s.axis with state := .locked } := by
  simp [lockTaken, State.setLock]
theorem lockTaken_line : (lockTaken code s).line = lineEntering s.axis.state .locked s.line := by
  simp [lockTaken, State.setLock]
theorem lockTaken_cfg : (lockTaken code s).cfg = s.cfg := by simp [lockTaken, State.setLock]
theorem lockTaken_reg : (lockTaken code s).reg = s.reg := by simp [lockTaken, State.setLock]
theorem lockTaken_sync : (lockTaken code s).sync = s.sync := by simp [lockTaken, State.setLock]
theorem lockTaken_cue : (lockTaken code s).cue = s.cue := by simp [lockTaken, State.setLock]
theorem lockTaken_engine : (lockTaken code s).engine = s.engine := by simp [lockTaken, State.setLock]

end

/-- With no aloft write pending in PARKED the aloft record stands clear and none of its writes is in flight. -/
theorem PortRecords.aloft_settled {s : State} (h : PortRecords s) (hx : s.axis.state = .parked)
    (hp : Store.aloftPending s.store = false) :
    s.store.aloft.stored = .clear ∧ ∀ v, s.store.inFlight ≠ some (.aloftWrite v) := by
  have hpend : ¬aloftWritePending s.store := by
    rw [← aloftPending_iff, hp]
    decide
  unfold aloftWritePending at hpend
  push Not at hpend
  obtain ⟨hsame, hidle⟩ := hpend
  exact ⟨hsame ▸ h.parked hx, hidle⟩

theorem PortRecords.locking_taken {s : State} (h : PortRecords s) (code : Word) (ha : AxisLaws s)
    (hx : s.axis.state = .parked) (hp : Store.aloftPending s.store = false) : PortRecords (lockTaken code s) := by
  obtain ⟨hclear, hidle⟩ := h.aloft_settled hx hp
  have hfree : s.store.lockRec.target = none :=
    h.copy.trans (ha.lock_free (by rw [hx]; decide) (by rw [hx]; decide))
  have hb : (lockTaken code s).axis.state = .locked := by rw [lockTaken_axis]
  refine ⟨?_, ?_, ?_, ?_, ?_, ?_, ?_, ?_, ?_⟩ <;> rw [lockTaken_store]
  · exact ⟨h.port.oneAloft, h.port.oneLock, h.port.oneFlag, h.port.oneSlice, h.port.flagValue, h.port.swapping,
      h.port.slices⟩
  · rw [lockTaken_lock]
  · exact fun _ => h.parked hx
  · exact fun _ => h.parked hx
  · intro _
    rw [hb]
    decide
  · intro c hc
    have hc' := h.lockWrite c hc
    rw [hfree] at hc'
    cases hc'
  · exact fun v hv => absurd hv (hidle v)
  · exact fun _ _ => hclear
  · exact h.order

/-- A LOCK is taken in PARKED with no aloft write pending; its own write is yet to be asked for. -/
theorem keeps_lockTaken {s : State} (code : Word) (hx : s.axis.state = .parked)
    (hp : Store.aloftPending s.store = false) : Keeps s (lockTaken code s) := by
  have hb : (lockTaken code s).axis.state = .locked := by rw [lockTaken_axis]
  exact
    { memory := fun h => by unfold MemoryCanonical at *; rw [lockTaken_store]; exact h
      line := fun h => by rw [lockTaken_line]; exact h.entering _ _
      cues := fun h => by rw [lockTaken_cue]; exact h
      waiting := fun h => by rw [lockTaken_sync]; exact h
      changes := fun h => by rw [lockTaken_sync]; exact h
      table := fun _ h => by rw [lockTaken_reg]; exact h
      copying := fun _ h => by unfold CopyFits at *; rw [lockTaken_sync, lockTaken_reg]; exact h
      slots := fun h => by
        unfold SlotsFit State.members State.conf at *
        rw [lockTaken_cue, lockTaken_cfg]
        exact h
      axis := fun h => by
        refine h.locking (by rw [hx]; decide) (by rw [hx]; decide) hb (by rw [lockTaken_axis])
          (lockTaken_engine code s) (by rw [lockTaken_cue]) (fun hs => ?_) ?_ (by rw [lockTaken_lock]; rfl)
        · rw [lockTaken_cue] at hs ⊢
          exact (h.showStop hs).2.2
        · rw [lockTaken_axis]
          exact h.faults_empty (by rw [hx]; decide)
      register := fun _ h => h.grounded (by rw [hb]; decide) (by rw [hb]; decide) (lockTaken_reg code s)
        (lockTaken_sync code s)
      records := fun ha h => h.locking_taken code ha hx hp
      asked := fun _ _ h _ => .inr ⟨by rw [lockTaken_store]; exact h.parked hx, by rw [hb]; decide⟩
      stored := fun _ _ h => by
        unfold BothStored at *
        rw [lockTaken_store] at h
        exact h }

theorem keeps_lockTests (n : Nat) (code : Word) (s : State) : Keeps s (lockTests n code s) := by
  unfold lockTests
  split
  · exact keeps_notice s _ _ _ _
  split
  · exact keeps_notice s _ _ _ _
  split
  · exact keeps_notice s _ _ _ _
  · rename_i hx hbusy
    rw [Bool.or_eq_true, not_or, Bool.not_eq_true, Bool.not_eq_true] at hbusy
    have hx' : (flush s).axis.state = .parked := by
      rw [flush_eq]
      exact not_not.mp hx
    exact (keeps_flush s).trans (keeps_lockTaken code hx' (by rw [flush_store]; exact hbusy.2))

/-- The store once the lock copy is given up. -/
def Store.unlocked (st : Store) : Store := { st with lockRec := ⟨st.lockRec.stored, none⟩ }

/-- What an unlock leaves: the lock copy is gone, and the axis comes from LOCKED to PARKED with its brake set (10 R180, 05 R116). -/
structure Unlocked (s t : State) : Prop where
  store : t.store = storeEntering s.axis.state t.axis.state s.store.unlocked
  lock : t.lock = ⟨none⟩
  line : t.line = lineEntering s.axis.state t.axis.state s.line
  cfg : t.cfg = s.cfg
  reg : t.reg = s.reg
  sync : t.sync = s.sync
  cue : t.cue = s.cue
  engine : t.engine = s.engine
  axis : s.axis.state = .locked ∧ t.axis = { Axis.command s.axis .set with state := .parked, demand := 0 }
    ∨ s.axis.state ≠ .locked ∧ t.axis = s.axis

theorem unlocked_acceptUnlock (s : State) : Unlocked s (acceptUnlock s) := by
  unfold acceptUnlock unlockAxis
  by_cases hx : s.axis.state = .locked
  · rw [if_pos (show (s.setLock none).axis.state = .locked from hx)]
    constructor
    case axis => exact .inl ⟨hx, by simp [State.setLock]⟩
    all_goals simp [State.setLock, Store.unlocked, Axis.command_state]
  · rw [if_neg (show ¬(s.setLock none).axis.state = .locked from hx)]
    constructor
    case store => exact (storeEntering_same s.axis.state s.store.unlocked).symm
    case line => exact (lineEntering_same s.axis.state s.line).symm
    case axis => exact .inr ⟨hx, rfl⟩
    all_goals rfl

section
variable {s t : State} (u : Unlocked s t)
include u

theorem Unlocked.grounded (h : AxisLaws s) (hk : s.lock.copy.isSome = true) :
    (t.axis.state = .parked ∨ t.axis.state = .faulted) ∧ s.axis.state ≠ .armed ∧ s.axis.state ≠ .flying := by
  rcases u.axis with ⟨hx, ht⟩ | ⟨hx, ht⟩
  · exact ⟨.inl (by rw [ht]), by rw [hx]; decide, by rw [hx]; decide⟩
  · have hf : s.axis.state = .faulted := (h.lockKept hk).resolve_left hx
    exact ⟨.inr (by rw [ht, hf]), by rw [hf]; decide, by rw [hf]; decide⟩

theorem Unlocked.axisLaws (h : AxisLaws s) (hk : s.lock.copy.isSome = true) : AxisLaws t := by
  obtain ⟨-, hna, hnf⟩ := u.grounded h hk
  rcases u.axis with ⟨hx, ht⟩ | ⟨hx, ht⟩
  · refine h.come_to_rest hna hnf (b := .parked) rfl (by rw [ht]) (by rw [ht]; exact Axis.command_origin _ _) u.engine
      u.cue ?_ ?_ (by rw [u.lock])
    · rw [ht]
      exact (congrArg FaultSet.isEmpty (Axis.command_faults s.axis .set)).trans (h.faults_empty (by rw [hx]; decide))
    · unfold braked
      rw [ht]
      exact ⟨Axis.command_brake _ _, rfl⟩
  · have hf : s.axis.state = .faulted := (h.lockKept hk).resolve_left hx
    have hl : t.axis.state ≠ .locked := by rw [ht]; exact hx
    exact
      { armed := by rw [ht]; unfold currentIs; rw [u.cue]; exact h.armed
        flying := by rw [ht]; unfold currentIs; rw [u.cue]; exact h.flying
        engine := by rw [ht, u.engine]; exact h.engine
        origin := by rw [ht]; exact h.origin
        faulted := by rw [ht]; exact h.faulted
        brake := by unfold braked; rw [ht]; exact h.brake
        lockKept := fun hn => by rw [u.lock] at hn; cases hn
        locked := fun hn => absurd hn hl
        showStop := by rw [ht, u.cue]; exact h.showStop }

/-- No lock write is pending when the copy is given up, so that nothing at the port carries the old one. -/
theorem Unlocked.portRecords (h : PortRecords s) (ha : AxisLaws s) (hk : s.lock.copy.isSome = true)
    (hp : Store.lockPending s.store = false) : PortRecords t := by
  have hpend : ¬lockWritePending s.store := by
    rw [← lockPending_iff, hp]
    decide
  unfold lockWritePending at hpend
  push Not at hpend
  obtain ⟨-, hidle⟩ := hpend
  have hfree : PortRecords (s.setLock none) :=
    { port := ⟨h.port.oneAloft, h.port.oneLock, h.port.oneFlag, h.port.oneSlice, h.port.flagValue, h.port.swapping,
        h.port.slices⟩
      copy := rfl
      parked := h.parked
      lockedClear := fun hn => by cases hn
      swapAtRest := h.swapAtRest
      lockWrite := fun c hc => absurd hc (hidle _)
      aloftWrite := fun v hv hn => ⟨rfl, (h.aloftWrite v hv hn).2⟩
      locking := fun hn => absurd rfl hn
      order := h.order }
  obtain ⟨hb, -⟩ := u.grounded ha hk
  refine hfree.entering u.store rfl u.lock (fun _ => ?_)
  rcases hb with hb | hb <;> rw [hb] <;> decide

end

theorem keeps_acceptUnlock {s : State} (hk : s.lock.copy.isSome = true) (hp : Store.lockPending s.store = false) :
    Keeps s (acceptUnlock s) := by
  have u := unlocked_acceptUnlock s
  generalize acceptUnlock s = t at u
  obtain ⟨hrec, -, -, haloft⟩ := storeEntering_fields s.axis.state t.axis.state s.store.unlocked
  have hgr : AxisLaws s → t.axis.state ≠ .armed ∧ t.axis.state ≠ .flying := fun ha => by
    obtain ⟨hb | hb, -⟩ := u.grounded ha hk <;> rw [hb] <;> decide
  exact
    { memory := fun h => by unfold MemoryCanonical at *; rw [u.store, storeEntering_mem]; exact h
      line := fun h => by rw [u.line]; exact h.entering _ _
      cues := fun h => by rw [u.cue]; exact h
      waiting := fun h => by rw [u.sync]; exact h
      changes := fun h => by rw [u.sync]; exact h
      table := fun _ h => by rw [u.reg]; exact h
      copying := fun _ h => by unfold CopyFits at *; rw [u.sync, u.reg]; exact h
      slots := fun h => by
        unfold SlotsFit State.members State.conf at *
        rw [u.cue, u.cfg]
        exact h
      axis := fun h => u.axisLaws h hk
      register := fun ha h => h.grounded (hgr ha).1 (hgr ha).2 u.reg u.sync
      records := fun ha h => u.portRecords h ha hk hp
      asked := fun _ ha h _ => by
        refine .inr ⟨?_, (hgr ha).1⟩
        rw [u.store]
        rcases storeEntering_eq s.axis.state t.axis.state s.store.unlocked with he | ⟨-, he⟩ <;> rw [he]
        · exact h.lockedClear hk
        · rfl
      stored := fun _ _ h => by
        unfold BothStored at *
        rw [u.store, hrec, haloft] at h
        exact h }

theorem keeps_unlockTests (n : Nat) (fl : Byte) (code wanted : Word) (s : State) :
    Keeps s (unlockTests n fl code wanted s) := by
  unfold unlockTests
  split
  · exact keeps_notice s _ _ _ _
  split
  · exact keeps_notice s _ _ _ _
  split
  · exact keeps_notice s _ _ _ _
  · rename_i hk hbusy _
    exact keeps_acceptUnlock (by simpa [Option.isSome_iff_ne_none] using hk) (Bool.not_eq_true _ ▸ hbusy)

theorem keeps_takeLockPost (m target : Nat) (fl : Byte) (code : Word) (s : State) :
    Keeps s (takeLockPost m target fl code s) := by
  unfold takeLockPost
  split
  · split
    · exact keeps_notice s _ _ _ _
    · exact keeps_lockTests _ _ s
    · exact keeps_unlockTests _ _ _ _ s
    · exact keeps_unlockTests _ _ _ _ s
  · exact .refl _ s

end Sys2Proof.Machine
end

section
/-! The laws a step keeps beside those of the records, the laws of the records before the memory port is served, and what the end of an event does with both. -/

namespace Sys2Proof.Machine

/-! ### The laws beside those of the records -/

/-- From `s` to `t` every law but those of the records is kept, between events. -/
structure Kept (s t : State) : Prop where
  memory : MemoryCanonical s → MemoryCanonical t
  line : s.line.Ordered → t.line.Ordered
  cues : s.cue.queue.length ≤ 8 → t.cue.queue.length ≤ 8
  waiting : s.sync.waitList.length ≤ 4 → t.sync.waitList.length ≤ 4
  changes : s.sync.changes.length ≤ 8 → t.sync.changes.length ≤ 8
  table : TableBounded s → TableBounded t
  slots : SlotsFit s → SlotsFit t
  axis : AxisLaws s → AxisLaws t
  register : AxisLaws s → RegisterLaws s → RegisterLaws t

theorem Kept.refl (s : State) : Kept s s := ⟨id, id, id, id, id, id, id, id, fun _ => id⟩

theorem Kept.trans {s t u : State} (a : Kept s t) (b : Kept t u) : Kept s u where
  memory h := b.memory (a.memory h)
  line h := b.line (a.line h)
  cues h := b.cues (a.cues h)
  waiting h := b.waiting (a.waiting h)
  changes h := b.changes (a.changes h)
  table h := b.table (a.table h)
  slots h := b.slots (a.slots h)
  axis h := b.axis (a.axis h)
  register ha h := b.register (a.axis ha) (a.register ha h)

theorem KeepsBut.kept_of {ex : List Exempt} {s t : State} (k : KeepsBut ex s t) (ht : TableBounded s → TableBounded t) :
    Kept s t :=
  ⟨k.memory, k.line, k.cues, k.waiting, k.changes, ht, k.slots, k.axis, k.register⟩

theorem KeepsBut.kept {ex : List Exempt} {s t : State} (k : KeepsBut ex s t) (h1 : .table ∉ ex)
    (h2 : .copying ∉ ex) : Kept s t :=
  k.kept_of fun ⟨hl, hc⟩ => ⟨k.table h1 hl, k.copying h2 hc⟩

theorem Keeps.kept {s t : State} (k : Keeps s t) : Kept s t := KeepsBut.kept k (by decide) (by decide)

/-- The program store is read by the law of its memory alone. -/
theorem kept_withStore (s : State) (st : Store) (hm : Memory.wf s.store.mem = true → Memory.wf st.mem = true) :
    Kept s (s.withStore st) where
  memory := hm
  line := id
  cues := id
  waiting := id
  changes := id
  table := id
  slots := id
  axis h := ⟨h.armed, h.flying, h.engine, h.origin, h.faulted, h.brake, h.lockKept, h.locked, h.showStop⟩
  register _ h := ⟨h.register, h.runKey, h.syncing, h.attempt, h.resting⟩

/-! ### The laws of the records before the port is served -/

/-- The lock record's write waits before the aloft record's. -/
def LockBefore (ws : List MemRequest) : Prop := [.lockWrite, .aloftWrite].Sublist ws

/-- The laws of the records in the midst of an event whose completion may have left the port idle: it is `PortRecords` with the `order` that serving the port restores. -/
structure Settling (s : State) : Prop where
  port : PortLaws s.store
  copy : s.store.lockRec.target = s.lock.copy
  parked : s.axis.state = .parked → s.store.aloft.target = .clear
  lockedClear : s.lock.copy.isSome = true → s.store.aloft.target = .clear
  swapAtRest : s.store.copy.isSome = true → s.axis.state ≠ .armed ∧ s.axis.state ≠ .flying
  lockWrite : ∀ c, s.store.inFlight = some (.lockWrite (some c)) → s.store.lockRec.target = some c
  aloftWrite : ∀ v, s.store.inFlight = some (.aloftWrite v) → v ≠ .clear →
    s.store.lockRec.target = none ∧ (s.store.lockRec.stored = none ∨ s.store.aloft.stored ≠ .clear)
  locking : s.store.lockRec.target ≠ none →
    (s.store.lockRec.target ≠ s.store.lockRec.stored ∨ .lockWrite ∈ s.store.waiting
      ∨ MemOp.isLock s.store.inFlight = true) →
    s.store.aloft.stored = .clear
  order : s.store.lockRec.stored ≠ none → s.store.aloft.stored = .clear → .aloftWrite ∈ s.store.waiting →
    LockBefore s.store.waiting ∨ MemOp.isLock s.store.inFlight = true
      ∨ (MemOp.isFlag s.store.inFlight = true ∨ s.store.inFlight = none) ∧ s.store.aloft.target = .clear

theorem lockBefore_of_idxOf {ws : List MemRequest} (ha : .aloftWrite ∈ ws)
    (h : ws.idxOf .lockWrite < ws.idxOf .aloftWrite) : LockBefore ws := by
  induction ws with
  | nil => cases ha
  | cons r rs ih =>
    by_cases hl : r = .lockWrite
    · subst hl
      have ha' : .aloftWrite ∈ rs := by simpa using ha
      exact .cons_cons _ (List.singleton_sublist.mpr ha')
    · by_cases hal : r = .aloftWrite
      · subst hal
        simp at h
      · rw [List.idxOf_cons_ne _ hl, List.idxOf_cons_ne _ hal] at h
        refine .cons _ (ih ?_ (by omega))
        rcases List.mem_cons.mp ha with rfl | ha
        · exact absurd rfl hal
        · exact ha

theorem LockBefore.idxOf {ws : List MemRequest} (h : LockBefore ws) (hc : ws.count .aloftWrite ≤ 1) :
    ws.idxOf .lockWrite < ws.idxOf .aloftWrite := by
  induction ws with
  | nil => cases h
  | cons r rs ih =>
    by_cases hl : r = .lockWrite
    · subst hl
      rw [List.idxOf_cons_self, List.idxOf_cons_ne _ (by decide)]
      exact Nat.succ_pos _
    · have ht : LockBefore rs := by
        cases h with
        | cons _ h => exact h
        | cons_cons => exact absurd rfl hl
      have hal : r ≠ .aloftWrite := by
        rintro rfl
        have hmem : MemRequest.aloftWrite ∈ rs := ht.subset (by simp)
        have hpos := List.count_pos_iff.mpr hmem
        rw [List.count_cons_self] at hc
        omega
      rw [List.idxOf_cons_ne _ hl, List.idxOf_cons_ne _ hal]
      have := ih ht (by rwa [List.count_cons_of_ne hal] at hc)
      omega

theorem PortRecords.settling {s : State} (h : PortRecords s) : Settling s where
  port := h.port
  copy := h.copy
  parked := h.parked
  lockedClear := h.lockedClear
  swapAtRest := h.swapAtRest
  lockWrite := h.lockWrite
  aloftWrite := h.aloftWrite
  locking := h.locking
  order h1 h2 h3 := by
    rcases h.order h1 h2 h3 with ho | ho | ⟨hf, hc⟩
    · exact .inl (lockBefore_of_idxOf h3 ho)
    · exact .inr (.inl ho)
    · exact .inr (.inr ⟨.inl hf, hc⟩)

/-! ### What an event does to the records once its own act is over -/

/-- From `s` to `t` the store stands but for an aloft record's target set clear, the lock stands, and an axis that moves comes to neither ARMED nor FLYING, to PARKED only with that target clear. -/
structure Eases (s t : State) : Prop where
  store : t.store = s.store ∨ t.store = s.store.aimed .clear
  lock : t.lock = s.lock
  axis : t.axis.state = s.axis.state ∨ t.axis.state ≠ .armed ∧ t.axis.state ≠ .flying
    ∧ (t.axis.state = .parked → t.store.aloft.target = .clear)

theorem Eases.of_eq {s t : State} (hs : t.store = s.store) (hl : t.lock = s.lock) (hx : t.axis = s.axis) : Eases s t :=
  ⟨.inl hs, hl, .inl (by rw [hx])⟩

theorem Eases.refl (s : State) : Eases s s := .of_eq rfl rfl rfl

theorem Eases.trans {s t u : State} (a : Eases s t) (b : Eases t u) : Eases s u where
  store := by
    rcases a.store with ha | ha <;> rcases b.store with hb | hb <;> rw [hb, ha]
    · exact .inl rfl
    · exact .inr rfl
    · exact .inr rfl
    · exact .inr rfl
  lock := b.lock.trans a.lock
  axis := by
    rcases b.axis with hb | hb
    · rcases a.axis with ha | ⟨h1, h2, h3⟩
      · exact .inl (hb.trans ha)
      · refine .inr ⟨hb ▸ h1, hb ▸ h2, fun hp => ?_⟩
        have hclear := h3 (hb ▸ hp)
        rcases b.store with he | he <;> rw [he]
        · exact hclear
        · rfl
    · exact .inr hb

theorem Settling.eased {s t : State} (h : Settling s) (e : Eases s t) : Settling t := by
  have hp : t.axis.state = .parked → t.store.aloft.target = .clear := fun hp => by
    rcases e.axis with hx | ⟨-, -, hx⟩
    · have hclear := h.parked (hx ▸ hp)
      rcases e.store with he | he <;> rw [he]
      · exact hclear
      · rfl
    · exact hx hp
  have hr : s.store.copy.isSome = true → t.axis.state ≠ .armed ∧ t.axis.state ≠ .flying := fun hc => by
    rcases e.axis with hx | ⟨h1, h2, -⟩
    · rw [hx]
      exact h.swapAtRest hc
    · exact ⟨h1, h2⟩
  rcases e.store with he | he
  · constructor
    case parked => exact hp
    all_goals rw [he]
    case port => exact h.port
    case copy => rw [e.lock]; exact h.copy
    case lockedClear => rw [e.lock]; exact h.lockedClear
    case swapAtRest => exact hr
    case lockWrite => exact h.lockWrite
    case aloftWrite => exact h.aloftWrite
    case locking => exact h.locking
    case order => exact h.order
  · constructor
    case parked => exact hp
    all_goals rw [he]
    case port =>
      exact ⟨h.port.oneAloft, h.port.oneLock, h.port.oneFlag, h.port.oneSlice, h.port.flagValue, h.port.swapping,
        h.port.slices⟩
    case copy => rw [e.lock]; exact h.copy
    case lockedClear => exact fun _ => rfl
    case swapAtRest => exact hr
    case lockWrite => exact h.lockWrite
    case aloftWrite => exact h.aloftWrite
    case locking => exact h.locking
    case order =>
      intro h1 h2 h3
      rcases h.order h1 h2 h3 with ho | ho | ⟨hf, -⟩
      · exact .inl ho
      · exact .inr (.inl ho)
      · exact .inr (.inr ⟨hf, rfl⟩)

theorem LockAskedOrClear.eased {s t : State} (h : LockAskedOrClear s) (e : Eases s t) : LockAskedOrClear t := by
  rcases h with h | ⟨hc, hx⟩
  · left
    rcases e.store with he | he
    · exact lockAsked_of_store h (by rw [he]) (by rw [he]) (by rw [he])
    · exact lockAsked_of_store h (by rw [he]; rfl) (by rw [he]; rfl) (by rw [he]; rfl)
  · refine .inr ⟨?_, ?_⟩
    · rcases e.store with he | he <;> rw [he]
      · exact hc
      · rfl
    · rcases e.axis with hx' | ⟨hx', -⟩
      · rw [hx']
        exact hx
      · exact hx'

theorem Eases.stored {s t : State} (e : Eases s t) (h : BothStored t) : BothStored s := by
  rcases e.store with he | he
  · unfold BothStored at *
    rw [he] at h
    exact h
  · unfold BothStored at *
    rw [he] at h
    exact h

/-! ### The operations at an event's end -/

theorem eases_setRegister (r : RegisterState) (s : State) : Eases s (setRegister r s) := by
  rw [setRegister_eq]
  exact .of_eq rfl rfl rfl

theorem eases_choice (s : State) : Eases s (choice s) := by
  unfold choice
  split
  · split
    · exact .of_eq rfl rfl rfl
    · split
      · refine .trans (t := (s.withReg { s.reg with table := [], generation := 0 }).withSync s.sync.endRound)
          (.of_eq rfl rfl rfl) (eases_setRegister .current _)
      · exact .refl s
  · exact .refl s

theorem eases_failAttempt (s : State) : Eases s (failAttempt s) := by
  by_cases h : s.sync.failed + 1 < 3
  · rw [failAttempt_again h]
    exact .trans (t := s.withSync s.sync.failing) (.of_eq rfl rfl rfl) (eases_choice _)
  · rw [failAttempt_last h]
    exact .of_eq rfl rfl rfl

theorem eases_endAnswer (s : State) : Eases s (endAnswer s) := by
  unfold endAnswer serveNext
  split <;> exact .of_eq rfl rfl rfl

/-- An armed cue dropped brings the axis back to the rest state it came from (03 R65). -/
theorem eases_dropArmed {s : State} {c : CurrentCue} (h : AxisLaws s) (r : CutReason) (w : Bool)
    (hc : s.cue.current = some c) (hp : c.phase = .armed) : Eases s (dropArmed c r w s) := by
  have ha := h.state_of_armed hc hp
  obtain ⟨h1, h2, -⟩ := AxisState.atRest.ne (originState_rest h ha)
  have hst : (dropArmed c r w s).store = storeEntering s.axis.state (originState s.axis) s.store := by
    rw [dropArmed_eq]
    rfl
  have hx : (dropArmed c r w s).axis.state = originState s.axis := by
    rw [dropArmed_eq]
    rfl
  refine ⟨?_, by rw [dropArmed_eq]; rfl, .inr ⟨by rw [hx]; exact h1, by rw [hx]; exact h2, fun hpk => ?_⟩⟩
  · rw [hst]
    rcases storeEntering_eq s.axis.state (originState s.axis) s.store with he | ⟨-, he⟩
    · exact .inl he
    · exact .inr he
  · rw [hst, ← hx, hpk, storeEntering_parked s.store (by rw [ha]; decide)]
    rfl

theorem eases_dropCue {s : State} (h : AxisLaws s) (r : CutReason) (w : Bool) : Eases s (dropCue r w s) := by
  unfold dropCue
  split
  · rename_i c hc
    split
    · rename_i hp
      exact eases_dropArmed h r w hc hp
    · exact .refl s
  · exact .refl s

theorem eases_dropMatching {s : State} (h : AxisLaws s) (sh sg : Nat) (r : CutReason) :
    Eases s (dropMatching sh sg r s) := by
  unfold dropMatching
  split
  · split
    · exact eases_dropCue h r true
    · exact .refl s
  · exact .refl s

theorem eases_handleReport {s : State} (h : AxisLaws s) (o : OutPost) : Eases s (handleReport o s) := by
  rcases handleReport_cases o s with he | ⟨-, he⟩ | he | ⟨sh, sg, r, he⟩ | he | he
  all_goals rw [he]
  · exact .refl s
  · exact eases_failAttempt s
  · exact eases_endAnswer s
  · exact eases_dropMatching h sh sg r
  · exact eases_dropCue h .space true
  · exact .of_eq rfl rfl rfl

theorem eases_trackReclaim (s : State) : Eases s (trackReclaim s) := by
  obtain ⟨v, h⟩ := trackReclaim_eq s
  rw [h]
  exact .of_eq rfl rfl rfl

theorem eases_trackChain (s : State) : Eases s (trackChain s) := by
  obtain ⟨v, h⟩ := trackChain_eq s
  rw [h]
  exact .of_eq rfl rfl rfl

theorem eases_drainReports (n : Nat) {s : State} (h : AxisLaws s) : Eases s (drainReports n s) := by
  induction n generalizing s with
  | zero => exact .refl s
  | succ n ih =>
    unfold drainReports
    split
    · exact .refl s
    · rename_i o os _
      have hr := (keeps_withLine s { s.line with reports := os } id).trans (keeps_trackReclaim _)
      have he := (Eases.of_eq (s := s) (t := s.withLine { s.line with reports := os }) rfl rfl rfl).trans
        (eases_trackReclaim _)
      exact (he.trans (eases_handleReport (hr.axis h) o)).trans (ih ((keeps_takeReport o os s).axis h))

theorem eases_resendOwed (n : Nat) (s : State) : Eases s (resendOwed n s) := by
  have hfold : ∀ (os : List OwedPost) (t : State), Eases t (os.foldl resend t) := by
    intro os
    induction os with
    | nil => exact fun t => .refl t
    | cons o os ih =>
      intro t
      refine Eases.trans ?_ (ih (resend t o))
      unfold resend
      split <;> exact .of_eq rfl rfl rfl
  exact .trans (t := s.withCue { s.cue with owed := s.cue.owed.drop n }) (.of_eq rfl rfl rfl) (hfold _ _)

end Sys2Proof.Machine
end

section
/-! Serving the memory port restores the laws of the records (09 R167, R176). -/

namespace Sys2Proof.Machine

/-! ### A request entered -/

section
variable {st : Store} (h : PortLaws st)
include h

theorem PortLaws.request_aloft (hw : .aloftWrite ∉ st.waiting) (hf : MemOp.isAloft st.inFlight = false) :
    PortLaws (st.request .aloftWrite) where
  oneAloft := by simp [Store.request, List.count_eq_zero.mpr hw, hf]
  oneLock := by simpa [Store.request, List.count_cons] using h.oneLock
  oneFlag := by simpa [Store.request, List.count_cons] using h.oneFlag
  oneSlice := by simpa [Store.request, MemRequest.isCopySlice] using h.oneSlice
  flagValue := h.flagValue
  swapping := by simpa [Store.request] using h.swapping
  slices := by simpa [Store.request] using h.slices

theorem PortLaws.request_lock (hw : .lockWrite ∉ st.waiting) (hf : MemOp.isLock st.inFlight = false) :
    PortLaws (st.request .lockWrite) where
  oneAloft := by simpa [Store.request, List.count_cons] using h.oneAloft
  oneLock := by simp [Store.request, List.count_eq_zero.mpr hw, hf]
  oneFlag := by simpa [Store.request, List.count_cons] using h.oneFlag
  oneSlice := by simpa [Store.request, MemRequest.isCopySlice] using h.oneSlice
  flagValue := h.flagValue
  swapping := by simpa [Store.request] using h.swapping
  slices := by simpa [Store.request] using h.slices

/-- The flag's write is asked for only before the copy's slices. -/
theorem PortLaws.request_flag (ht : st.flag.target ≠ st.flag.stored) (hw : .flagWrite ∉ st.waiting)
    (hf : MemOp.isFlag st.inFlight = false) : PortLaws (st.request .flagWrite) where
  oneAloft := by simpa [Store.request, List.count_cons] using h.oneAloft
  oneLock := by simpa [Store.request, List.count_cons] using h.oneLock
  oneFlag := by simp [Store.request, List.count_eq_zero.mpr hw, hf]
  oneSlice := by simpa [Store.request, MemRequest.isCopySlice] using h.oneSlice
  flagValue := h.flagValue
  swapping _ := h.swapping (.inr (.inr ht))
  slices hs := by
    have hs' : (∃ i, .copySlice i ∈ st.waiting) ∨ MemOp.isCopySlice st.inFlight = true := by
      simpa [Store.request] using hs
    exact absurd (h.slices hs').2.1 ht

end

/-- The laws through a request entered behind what waits: a lock's write belongs to a target still to be written, and an aloft record's goes behind the lock's or is to clear. -/
theorem Settling.requesting {s : State} (h : Settling s) {r : MemRequest} (hp : PortLaws (s.store.request r))
    (hl : r = .lockWrite → s.store.lockRec.target ≠ s.store.lockRec.stored)
    (ha : r = .aloftWrite → s.store.lockRec.stored ≠ none → s.store.aloft.stored = .clear →
      .lockWrite ∈ s.store.waiting ∨ MemOp.isLock s.store.inFlight = true) :
    Settling (s.withStore (s.store.request r)) where
  port := hp
  copy := h.copy
  parked := h.parked
  lockedClear := h.lockedClear
  swapAtRest := h.swapAtRest
  lockWrite := h.lockWrite
  aloftWrite := h.aloftWrite
  locking ht hk := by
    rcases hk with hk | hk | hk
    · exact h.locking ht (.inl hk)
    · rcases List.mem_append.mp hk with hk | hk
      · exact h.locking ht (.inr (.inl hk))
      · exact h.locking ht (.inl (hl (List.mem_singleton.mp hk).symm))
    · exact h.locking ht (.inr (.inr hk))
  order h1 h2 h3 := by
    rcases List.mem_append.mp h3 with h3 | h3
    · rcases h.order h1 h2 h3 with ho | ho
      · exact .inl (ho.trans (List.sublist_append_left _ _))
      · exact .inr ho
    · have hr : r = .aloftWrite := (List.mem_singleton.mp h3).symm
      rcases ha hr h1 h2 with hw | hw
      · subst hr
        exact .inl ((List.singleton_sublist.mpr hw).append (.refl [MemRequest.aloftWrite]))
      · exact .inr (.inl hw)

/-- The request for the aloft record's write: a set target leaves the lock free, so that a lock record still set is to be cleared first (10 R182). -/
theorem Settling.request_aloft {s : State} (h : Settling s) (ha : LockAskedOrClear s) :
    Settling (s.withStore (Store.requestAloft s.store)) := by
  unfold Store.requestAloft
  split
  · rename_i hc
    simp only [Bool.and_eq_true, decide_eq_true_eq, Bool.not_eq_true', List.contains_eq_mem, decide_eq_false_iff_not] at hc
    obtain ⟨⟨hne, hw⟩, hf⟩ := hc
    refine h.requesting (h.port.request_aloft hw hf) (fun hr => by cases hr) (fun _ hstored hclear => ?_)
    have hset : s.store.aloft.target ≠ .clear := by rwa [hclear] at hne
    have hfree : s.store.lockRec.target = none := by
      rw [h.copy, ← Option.not_isSome_iff_eq_none]
      exact fun hk => hset (h.lockedClear hk)
    rcases ha with ha | ⟨ha, -⟩
    · exact ha (by rw [hfree]; exact Ne.symm hstored)
    · exact absurd ha hset
  · exact h

theorem Settling.request_lock {s : State} (h : Settling s) :
    Settling (s.withStore (Store.requestLock s.store)) ∧ LockAsked (s.withStore (Store.requestLock s.store)) := by
  unfold Store.requestLock
  by_cases hc : s.store.lockRec.target ≠ s.store.lockRec.stored ∧ .lockWrite ∉ s.store.waiting
      ∧ MemOp.isLock s.store.inFlight = false
  · obtain ⟨hne, hw, hf⟩ := hc
    rw [if_pos (by simp [hne, hw, hf])]
    exact ⟨h.requesting (h.port.request_lock hw hf) (fun _ => hne) (fun hr => by cases hr),
      fun _ => .inl (by simp [Store.request])⟩
  · rw [if_neg (by
      simp only [Bool.and_eq_true, decide_eq_true_eq, Bool.not_eq_true', List.contains_eq_mem, decide_eq_false_iff_not]
      exact fun ⟨⟨h1, h2⟩, h3⟩ => hc ⟨h1, h2, h3⟩)]
    refine ⟨h, fun hne => ?_⟩
    by_contra hn
    rw [not_or, Bool.not_eq_true] at hn
    exact hc ⟨hne, hn⟩

theorem Settling.request_flag {s : State} (h : Settling s) (ha : LockAsked s) :
    Settling (s.withStore (Store.requestFlag s.store)) ∧ LockAsked (s.withStore (Store.requestFlag s.store)) := by
  unfold Store.requestFlag
  split
  · rename_i hc
    simp only [Bool.and_eq_true, decide_eq_true_eq, Bool.not_eq_true', List.contains_eq_mem, decide_eq_false_iff_not] at hc
    obtain ⟨⟨hne, hw⟩, hf⟩ := hc
    refine ⟨h.requesting (h.port.request_flag hne hw hf) (fun hr => by cases hr) (fun hr => by cases hr), fun hn => ?_⟩
    rcases ha hn with hl | hl
    · exact .inl (List.mem_append_left _ hl)
    · exact .inr hl
  · exact ⟨h, ha⟩

/-! ### The grant -/

/-- The store once `r` is granted. -/
def Store.granted (st : Store) (r : MemRequest) : Store :=
  { st with waiting := st.waiting.erase r, inFlight := some (Store.opOf st r) }

theorem Store.grant_cases (st : Store) :
    (st.inFlight.isSome = true ∨ nextRequest st.waiting = none) ∧ st.grant = st
      ∨ ∃ r, st.inFlight = none ∧ nextRequest st.waiting = some r ∧ st.grant = st.granted r := by
  unfold Store.grant
  cases hf : st.inFlight with
  | some op => exact .inl ⟨.inl rfl, rfl⟩
  | none =>
    cases hn : nextRequest st.waiting with
    | none => exact .inl ⟨.inr rfl, rfl⟩
    | some r => exact .inr ⟨r, rfl, rfl, rfl⟩

theorem nextRequest_mem {ws : List MemRequest} {r : MemRequest} (h : nextRequest ws = some r) : r ∈ ws := by
  unfold nextRequest at h
  split at h
  · rename_i h1
    exact Option.some.inj h ▸ List.mem_of_find?_eq_some h1
  split at h
  · rename_i h1
    exact Option.some.inj h ▸ List.mem_of_find?_eq_some h1
  split at h
  · rename_i h1
    exact Option.some.inj h ▸ List.mem_of_find?_eq_some h1
  · exact List.mem_of_find?_eq_some h

/-- While a record's write waits, the first such write is the next request (09 R167). -/
theorem nextRequest_write {ws : List MemRequest} {a : MemRequest} (ha : a ∈ ws) (hc : a.category = 1) :
    nextRequest ws = ws.find? (fun r => r.category == 1) := by
  unfold nextRequest
  cases hf : ws.find? (fun r => r.category == 1) with
  | some r => rfl
  | none => exact absurd hc (by simpa using List.find?_eq_none.mp hf a ha)

/-- Where the lock record's write waits before the aloft record's, the latter is not the next request. -/
theorem LockBefore.next_ne {ws : List MemRequest} (h : LockBefore ws) (hc : ws.count .aloftWrite ≤ 1) :
    nextRequest ws ≠ some .aloftWrite := by
  intro hn
  have hl : MemRequest.lockWrite ∈ ws := h.subset (by simp)
  rw [nextRequest_write hl rfl] at hn
  obtain ⟨-, as, bs, rfl, has⟩ := List.find?_eq_some_iff_append.mp hn
  have hnot : ∀ r : MemRequest, r.category = 1 → r ∉ as := fun r hr hm => by simpa [hr] using has r hm
  have hlt := h.idxOf hc
  rw [List.idxOf_append_of_notMem (hnot _ rfl), List.idxOf_append_of_notMem (hnot _ rfl), List.idxOf_cons_self] at hlt
  omega

theorem count_erase_add {ws : List MemRequest} {r : MemRequest} (h : r ∈ ws) (a : MemRequest) :
    (ws.erase r).count a + (r == a).toNat = ws.count a := by
  by_cases hr : r = a
  · subst hr
    have hpos := List.count_pos_iff.mpr h
    rw [List.count_erase_self, beq_self_eq_true, Bool.toNat_true]
    omega
  · rw [List.count_erase_of_ne (Ne.symm hr), beq_false_of_ne hr]
    rfl

theorem countP_erase_add {ws : List MemRequest} {r : MemRequest} (h : r ∈ ws) (p : MemRequest → Bool) :
    (ws.erase r).countP p + (p r).toNat = ws.countP p := by
  rw [List.countP_erase]
  cases hp : p r with
  | false => simp
  | true =>
    have hpos := List.countP_pos_iff.mpr ⟨r, h, hp⟩
    simp only [h, and_self, if_true, Bool.toNat_true]
    omega

section
variable (st : Store) (r : MemRequest)

theorem isAloft_opOf : MemOp.isAloft (some (st.opOf r)) = (r == .aloftWrite) := by cases r <;> rfl
theorem isLock_opOf : MemOp.isLock (some (st.opOf r)) = (r == .lockWrite) := by cases r <;> rfl
theorem isFlag_opOf : MemOp.isFlag (some (st.opOf r)) = (r == .flagWrite) := by cases r <;> rfl
theorem isCopySlice_opOf : MemOp.isCopySlice (some (st.opOf r)) = r.isCopySlice := by cases r <;> rfl

end

theorem PortLaws.granted {st : Store} (h : PortLaws st) (hf : st.inFlight = none) {r : MemRequest}
    (hr : r ∈ st.waiting) : PortLaws (st.granted r) where
  oneAloft := by
    have := h.oneAloft
    rw [hf, ← count_erase_add hr] at this
    rw [Store.granted, isAloft_opOf]
    exact this
  oneLock := by
    have := h.oneLock
    rw [hf, ← count_erase_add hr] at this
    rw [Store.granted, isLock_opOf]
    exact this
  oneFlag := by
    have := h.oneFlag
    rw [hf, ← count_erase_add hr] at this
    rw [Store.granted, isFlag_opOf]
    exact this
  oneSlice := by
    have := h.oneSlice
    rw [hf, ← countP_erase_add hr] at this
    rw [Store.granted, isCopySlice_opOf]
    exact this
  flagValue v hv := by
    cases r <;> simp [Store.granted, Store.opOf] at hv
    exact hv.symm
  swapping hs := by
    refine h.swapping ?_
    rcases hs with hs | hs | hs
    · exact .inl (List.mem_of_mem_erase hs)
    · rw [Store.granted, isFlag_opOf, beq_iff_eq] at hs
      exact .inl (hs ▸ hr)
    · exact .inr (.inr hs)
  slices hs := by
    have hold : ∃ i, .copySlice i ∈ st.waiting := by
      rcases hs with ⟨i, hi⟩ | hs
      · exact ⟨i, List.mem_of_mem_erase hi⟩
      · rw [Store.granted, isCopySlice_opOf] at hs
        cases r <;> simp [MemRequest.isCopySlice] at hs
        exact ⟨_, hr⟩
    obtain ⟨h1, h2, h3, -⟩ := h.slices (.inl hold)
    refine ⟨h1, h2, fun hm => h3 (List.mem_of_mem_erase hm), ?_⟩
    rw [Store.granted, isFlag_opOf]
    exact beq_false_of_ne fun hn => h3 (hn ▸ hr)

/-- Past the requests, a grant leaves the laws of the records whole. -/
theorem Settling.grant {s : State} (h : Settling s) (ha : LockAsked s) :
    RecordLaws (s.withStore (Store.grant s.store)) := by
  rcases s.store.grant_cases with ⟨hidle, hg⟩ | ⟨r, hf, hn, hg⟩
  · rw [hg]
    refine ⟨h.port, h.copy, h.parked, h.lockedClear, h.swapAtRest, ha, h.lockWrite, h.aloftWrite, h.locking,
      fun h1 h2 h3 => ?_⟩
    have hcount : s.store.waiting.count .aloftWrite ≤ 1 := le_trans (Nat.le_add_right _ _) h.port.oneAloft
    have hbusy : s.store.inFlight ≠ none := by
      rcases hidle with hb | hno
      · exact Option.isSome_iff_ne_none.mp hb
      · have h3' : MemRequest.aloftWrite ∈ s.store.waiting := h3
        rw [nextRequest_write h3' rfl] at hno
        have hcat : ¬MemRequest.aloftWrite.category = 1 := by simpa using List.find?_eq_none.mp hno _ h3'
        exact absurd rfl hcat
    rcases h.order h1 h2 h3 with ho | ho | ⟨hf | hf, hc⟩
    · exact .inl (ho.idxOf hcount)
    · exact .inr (.inl ho)
    · exact .inr (.inr ⟨hf, hc⟩)
    · exact absurd hf hbusy
  · rw [hg]
    have hr := nextRequest_mem hn
    have hcount : s.store.waiting.count .aloftWrite ≤ 1 := le_trans (Nat.le_add_right _ _) h.port.oneAloft
    have hport := h.port.granted hf hr
    have horder : s.store.lockRec.stored ≠ none → s.store.aloft.stored = .clear → .aloftWrite ∈ s.store.waiting →
        LockBefore s.store.waiting ∨ s.store.aloft.target = .clear := fun h1 h2 h3 => by
      rcases h.order h1 h2 h3 with ho | ho | ⟨-, hc⟩
      · exact .inl ho
      · rw [hf] at ho
        cases ho
      · exact .inr hc
    exact
      { port := hport
        copy := h.copy
        parked := h.parked
        lockedClear := h.lockedClear
        swapAtRest := h.swapAtRest
        lockAsked := fun hne => by
          rcases ha hne with hl | hl
          · by_cases hrl : r = .lockWrite
            · exact .inr (by subst hrl; rfl)
            · exact .inl ((List.mem_erase_of_ne (Ne.symm hrl)).mpr hl)
          · rw [hf] at hl
            cases hl
        lockWrite := fun c hc => by
          cases r <;> simp [Store.granted, Store.opOf] at hc
          exact hc
        aloftWrite := fun v hv hset => by
          cases r <;> simp [Store.granted, Store.opOf] at hv
          subst hv
          refine ⟨?_, ?_⟩
          · show s.store.lockRec.target = none
            rw [h.copy, ← Option.not_isSome_iff_eq_none]
            exact fun hk => hset (h.lockedClear hk)
          · by_contra hboth
            rw [not_or, not_not] at hboth
            rcases horder hboth.1 hboth.2 hr with ho | ho
            · exact ho.next_ne hcount hn
            · exact hset ho
        locking := fun ht hk => by
          refine h.locking ht ?_
          rcases hk with hk | hk | hk
          · exact .inl hk
          · exact .inr (.inl (List.mem_of_mem_erase hk))
          · have hrl : r = .lockWrite := by simpa [Store.granted, isLock_opOf] using hk
            exact .inr (.inl (hrl ▸ hr))
        order := fun h1 h2 h3 => by
          have h3' : MemRequest.aloftWrite ∈ s.store.waiting := List.mem_of_mem_erase h3
          have hone : r.category = 1 := by
            rw [nextRequest_write h3' rfl] at hn
            simpa using List.find?_some hn
          have hmem : r = .aloftWrite ∨ r = .lockWrite ∨ r = .flagWrite := by
            cases r <;> simp [MemRequest.category] at hone <;> simp
          rcases hmem with rfl | rfl | rfl
          · have hpos := List.count_pos_iff.mpr h3
            rw [show (s.withStore (s.store.granted .aloftWrite)).store.waiting
              = s.store.waiting.erase .aloftWrite from rfl, List.count_erase_self] at hpos
            omega
          · exact .inr (.inl rfl)
          · rcases horder h1 h2 h3' with ho | ho
            · refine .inl (LockBefore.idxOf ?_ (le_trans (Nat.le_add_right _ _) hport.oneAloft))
              exact ho.erase MemRequest.flagWrite
            · exact .inr (.inr ⟨rfl, ho⟩) }

/-- Serving the port restores the laws of the records. -/
theorem Settling.served {s : State} (h : Settling s) (ha : LockAskedOrClear s) :
    RecordLaws (s.withStore (Store.servePort s.store)) := by
  have h1 := h.request_aloft ha
  obtain ⟨h2, a2⟩ := h1.request_lock
  obtain ⟨h3, a3⟩ := h2.request_flag a2
  exact h3.grant a3

end Sys2Proof.Machine
end

section
/-! What the acts of events do to the laws, those of the records among them: the program store's operations that leave its records alone (09 R168 to R174). -/

namespace Sys2Proof.Machine

/-! ### The act of an event -/

/-- From `s`, between events, to `t` within one: every law is kept, those of the records up to what serving the port restores. -/
structure Acts (s t : State) : Prop where
  kept : Kept s t
  records : AxisLaws s → RecordLaws s → Settling t ∧ LockAskedOrClear t
  stored : AxisLaws s → RecordLaws s → BothStored t → BothStored s

theorem KeepsBut.acts {ex : List Exempt} {s t : State} (k : KeepsBut ex s t) (hk : Kept s t)
    (ha : AxisLaws s → RecordLaws s → LockAskedOrClear t) : Acts s t :=
  ⟨hk, fun hx hr => ⟨(k.records hx hr.portRecords).settling, ha hx hr⟩, fun hx hr => k.stored hx hr.portRecords⟩

theorem Keeps.acts {s t : State} (k : Keeps s t) : Acts s t :=
  KeepsBut.acts k (Keeps.kept k) fun hx hr => k.asked (by decide) hx hr.portRecords (.inl hr.lockAsked)

theorem Acts.refl (s : State) : Acts s s := Keeps.acts (.refl _ s)

/-- An act followed by operations that ease the records. -/
theorem Acts.then {s t u : State} (a : Acts s t) (hk : Kept t u) (he : AxisLaws t → Eases t u) : Acts s u where
  kept := a.kept.trans hk
  records hx hr := by
    obtain ⟨h1, h2⟩ := a.records hx hr
    have e := he (a.kept.axis hx)
    exact ⟨h1.eased e, h2.eased e⟩
  stored hx hr h := a.stored hx hr ((he (a.kept.axis hx)).stored h)

theorem Acts.thenPost {s t : State} (a : Acts s t) (p : Post) : Acts s (t.post p) :=
  a.then (Keeps.kept (keeps_post t p)) fun _ => .of_eq rfl rfl rfl

/-! ### Operations the laws of the records do not notice -/

/-- The requests the laws of the records speak of: record writes and the copy's slices. -/
def MemRequest.guarded (r : MemRequest) : Bool := decide (r.category ≤ 2)

/-- The operations they speak of. -/
def MemOp.guarded : MemOp → Bool
  | .aloftWrite _ | .lockWrite _ | .flagWrite _ | .copySlice _ => true
  | .commit _ | .verifySlice _ _ => false

/-- Two stores alike to the laws of the records. -/
structure Store.Alike (a b : Store) : Prop where
  waiting : b.waiting.filter MemRequest.guarded = a.waiting.filter MemRequest.guarded
  inFlight : b.inFlight.filter MemOp.guarded = a.inFlight.filter MemOp.guarded
  aloft : b.aloft = a.aloft
  lockRec : b.lockRec = a.lockRec
  flag : b.flag = a.flag
  copy : b.copy = a.copy

theorem Store.Alike.refl (a : Store) : Store.Alike a a := ⟨rfl, rfl, rfl, rfl, rfl, rfl⟩

theorem Store.Alike.trans {a b c : Store} (h : Store.Alike a b) (k : Store.Alike b c) : Store.Alike a c :=
  ⟨k.waiting.trans h.waiting, k.inFlight.trans h.inFlight, k.aloft.trans h.aloft, k.lockRec.trans h.lockRec,
    k.flag.trans h.flag, k.copy.trans h.copy⟩

section
variable {a b : Store} (h : Store.Alike a b)
include h

theorem Store.Alike.mem_waiting {r : MemRequest} (hr : r.guarded = true) : r ∈ b.waiting ↔ r ∈ a.waiting := by
  have hm : r ∈ b.waiting.filter MemRequest.guarded ↔ r ∈ a.waiting.filter MemRequest.guarded := by rw [h.waiting]
  simpa [List.mem_filter, hr] using hm

theorem Store.Alike.count_waiting {r : MemRequest} (hr : r.guarded = true) :
    b.waiting.count r = a.waiting.count r := by
  rw [← List.count_filter hr, h.waiting, List.count_filter hr]

theorem Store.Alike.countP_slices :
    b.waiting.countP MemRequest.isCopySlice = a.waiting.countP MemRequest.isCopySlice := by
  have hsub : ∀ ws : List MemRequest,
      (ws.filter MemRequest.guarded).countP MemRequest.isCopySlice = ws.countP MemRequest.isCopySlice := fun ws => by
    rw [List.countP_filter]
    refine List.countP_congr fun r _ => ?_
    cases r <;> simp [MemRequest.isCopySlice, MemRequest.guarded, MemRequest.category]
  rw [← hsub, h.waiting, hsub]

theorem Store.Alike.inFlight_iff {op : MemOp} (ho : op.guarded = true) : b.inFlight = some op ↔ a.inFlight = some op := by
  have hf : b.inFlight.filter MemOp.guarded = some op ↔ a.inFlight.filter MemOp.guarded = some op := by rw [h.inFlight]
  simpa [Option.filter_eq_some_iff, ho] using hf

theorem Store.Alike.lockBefore (hl : LockBefore a.waiting) : LockBefore b.waiting := by
  have hf : LockBefore (b.waiting.filter MemRequest.guarded) := by
    rw [h.waiting]
    exact hl.filter MemRequest.guarded
  exact hf.trans List.filter_sublist

end

theorem MemOp.is_filter (o : Option MemOp) :
    MemOp.isAloft (o.filter MemOp.guarded) = MemOp.isAloft o ∧ MemOp.isLock (o.filter MemOp.guarded) = MemOp.isLock o
      ∧ MemOp.isFlag (o.filter MemOp.guarded) = MemOp.isFlag o
      ∧ MemOp.isCopySlice (o.filter MemOp.guarded) = MemOp.isCopySlice o := by
  cases o with
  | none => exact ⟨rfl, rfl, rfl, rfl⟩
  | some op => cases op <;> exact ⟨rfl, rfl, rfl, rfl⟩

theorem Store.Alike.is_eq {a b : Store} (h : Store.Alike a b) :
    MemOp.isAloft b.inFlight = MemOp.isAloft a.inFlight ∧ MemOp.isLock b.inFlight = MemOp.isLock a.inFlight
      ∧ MemOp.isFlag b.inFlight = MemOp.isFlag a.inFlight
      ∧ MemOp.isCopySlice b.inFlight = MemOp.isCopySlice a.inFlight := by
  obtain ⟨b1, b2, b3, b4⟩ := MemOp.is_filter b.inFlight
  obtain ⟨a1, a2, a3, a4⟩ := MemOp.is_filter a.inFlight
  rw [← b1, ← b2, ← b3, ← b4, h.inFlight]
  exact ⟨a1, a2, a3, a4⟩

theorem PortLaws.alike {a b : Store} (p : PortLaws a) (h : Store.Alike a b) : PortLaws b := by
  obtain ⟨h1, h2, h3, h4⟩ := h.is_eq
  constructor
  case oneAloft => rw [h.count_waiting rfl, h1]; exact p.oneAloft
  case oneLock => rw [h.count_waiting rfl, h2]; exact p.oneLock
  case oneFlag => rw [h.count_waiting rfl, h3]; exact p.oneFlag
  case oneSlice => rw [h.countP_slices, h4]; exact p.oneSlice
  case flagValue =>
    intro v hv
    rw [h.flag]
    exact p.flagValue v ((h.inFlight_iff rfl).mp hv)
  case swapping => rw [h.mem_waiting rfl, h3, h.flag, h.copy]; exact p.swapping
  case slices =>
    rw [h4, h.copy, h.flag, h.mem_waiting rfl, h3]
    rintro (⟨i, hi⟩ | hs)
    · exact p.slices (.inl ⟨i, (h.mem_waiting rfl).mp hi⟩)
    · exact p.slices (.inr hs)

theorem RecordLaws.alike {s : State} (r : RecordLaws s) {st : Store} (h : Store.Alike s.store st) :
    Settling (s.withStore st) ∧ LockAskedOrClear (s.withStore st) := by
  obtain ⟨-, h2, h3, -⟩ := h.is_eq
  constructor
  · constructor
    all_goals rw [State.withStore_store]
    case port => exact r.port.alike h
    case copy => rw [h.lockRec]; exact r.copy
    case parked => rw [h.aloft]; exact r.parked
    case lockedClear => rw [h.aloft]; exact r.lockedClear
    case swapAtRest => rw [h.copy]; exact r.swapAtRest
    case lockWrite =>
      intro c hc
      rw [h.lockRec]
      exact r.lockWrite c ((h.inFlight_iff rfl).mp hc)
    case aloftWrite =>
      intro v hv
      rw [h.lockRec, h.aloft]
      exact r.aloftWrite v ((h.inFlight_iff rfl).mp hv)
    case locking => rw [h.lockRec, h.aloft, h.mem_waiting rfl, h2]; exact r.locking
    case order =>
      rw [h.lockRec, h.aloft, h.mem_waiting rfl, h2, h3]
      intro h1 hc hw
      rcases r.order h1 hc hw with ho | ho | ⟨hf, ht⟩
      · exact .inl (h.lockBefore (lockBefore_of_idxOf hw ho))
      · exact .inr (.inl ho)
      · exact .inr (.inr ⟨.inl hf, ht⟩)
  · left
    unfold LockAsked
    rw [State.withStore_store, h.lockRec, h.mem_waiting rfl, h2]
    exact r.lockAsked

/-- An operation on the store that the laws of the records do not notice. -/
theorem acts_alike (s : State) {st : Store} (h : Store.Alike s.store st)
    (hm : Memory.wf s.store.mem = true → Memory.wf st.mem = true) : Acts s (s.withStore st) where
  kept := kept_withStore s st hm
  records _ hr := hr.alike h
  stored _ _ hb := by
    unfold BothStored at *
    rw [State.withStore_store, h.aloft, h.lockRec] at hb
    exact hb

/-! ### Requests of commits and verifies -/

theorem Store.alike_request (st : Store) {r : MemRequest} (hr : r.guarded = false) : Store.Alike st (st.request r) :=
  ⟨by simp [Store.request, hr], rfl, rfl, rfl, rfl, rfl⟩

theorem Store.alike_requestCommit (st : Store) : Store.Alike st st.requestCommit := by
  unfold Store.requestCommit
  split
  · exact .refl st
  · exact .trans (b := { st with commit := some st.buffer, buffer := [] }) ⟨rfl, rfl, rfl, rfl, rfl, rfl⟩
      (Store.alike_request _ rfl)

theorem Store.requestCommit_mem (st : Store) : st.requestCommit.mem = st.mem := by
  obtain ⟨c, b, w, h⟩ := st.requestCommit_eq
  rw [h]

theorem Store.alike_beginVerify (st : Store) : Store.Alike st st.beginVerify :=
  .trans st.alike_requestCommit (.trans (b := { st.requestCommit with verified := false, verify := some [] })
    ⟨rfl, rfl, rfl, rfl, rfl, rfl⟩ (Store.alike_request _ rfl))

theorem Store.alike_abandoned (st : Store) (ws : List Word) : Store.Alike st (st.abandoned ws) where
  waiting := by
    simp only [Store.abandoned, List.filter_filter]
    refine List.filter_congr fun r _ => ?_
    cases r <;> rfl
  inFlight := by
    unfold Store.abandoned
    cases st.inFlight with
    | none => rfl
    | some op => cases op <;> rfl
  aloft := rfl
  lockRec := rfl
  flag := rfl
  copy := rfl

theorem Store.alike_placeWord (a : Store × Nat) (w : Word) :
    Store.Alike a.1 (placeWord a w).1 ∧ (placeWord a w).1.mem = a.1.mem := by
  unfold placeWord
  dsimp only
  split
  · split
    · refine ⟨.trans (b := { a.1 with
        buffer := a.1.buffer ++ [(a.1.shadow.base + a.1.area.offset + a.1.index, w)], index := a.1.index + 1 })
        ⟨rfl, rfl, rfl, rfl, rfl, rfl⟩ (Store.alike_requestCommit _), Store.requestCommit_mem _⟩
    · exact ⟨⟨rfl, rfl, rfl, rfl, rfl, rfl⟩, rfl⟩
  · exact ⟨.refl _, rfl⟩

theorem Store.alike_placeWords (ws : List Word) (a : Store × Nat) :
    Store.Alike a.1 (ws.foldl placeWord a).1 ∧ (ws.foldl placeWord a).1.mem = a.1.mem := by
  induction ws generalizing a with
  | nil => exact ⟨.refl _, rfl⟩
  | cons w ws ih =>
    obtain ⟨h1, m1⟩ := Store.alike_placeWord a w
    obtain ⟨h2, m2⟩ := ih (placeWord a w)
    exact ⟨h1.trans h2, m2.trans m1⟩

/-! ### The store's deliveries (09 R168 to R173) -/

/-- The store once a taken LOAD has abandoned a verify: alike, its memory the same. -/
theorem abandonVerify_cases (s : State) :
    abandonVerify s = s ∨ ∃ ws, abandonVerify s
      = (s.withStore (s.store.abandoned ws)).post (.verified (bankShow ws) 3 255) := by
  cases h : s.store.verify with
  | none => exact .inl (abandonVerify_none h)
  | some ws => exact .inr ⟨ws, abandonVerify_running h⟩

/-- The operation of a taken LOAD puts a store alike in place, and may post. -/
def StoresAlike (op : State → State) : Prop :=
  ∀ s, ∃ st, Store.Alike s.store st ∧ st.mem = s.store.mem
    ∧ (op s = s.withStore st ∨ ∃ p, op s = (s.withStore st).post p)

theorem acts_withStore_post (s : State) {st : Store} (h : Store.Alike s.store st) (hm : st.mem = s.store.mem)
    (p : Post) : Acts s ((s.withStore st).post p) :=
  (acts_alike s h (by rw [hm]; exact id)).thenPost p

theorem acts_takeLoad {op : State → State} (ho : StoresAlike op) (n target : Nat) (s : State) :
    Acts s (takeLoad n target op s) := by
  unfold takeLoad
  split
  swap
  · exact .refl s
  split
  · exact Keeps.acts (keeps_notice s _ _ _ _)
  rcases abandonVerify_cases s with hv | ⟨ws, hv⟩
  · rw [hv]
    obtain ⟨st, ha, hm, he | ⟨p, he⟩⟩ := ho s
    · rw [he]
      exact acts_alike s ha (by rw [hm]; exact id)
    · rw [he]
      exact acts_withStore_post s ha hm p
  · rw [hv]
    obtain ⟨st, ha, hm, he⟩ := ho ((s.withStore (s.store.abandoned ws)).post (.verified (bankShow ws) 3 255))
    have ha' : Store.Alike s.store st := (s.store.alike_abandoned ws).trans ha
    have hp := acts_withStore_post s ha' (hm.trans rfl) (.verified (bankShow ws) 3 255)
    rcases he with he | ⟨p, he⟩
    · rw [he]
      exact hp
    · rw [he]
      exact hp.thenPost p

theorem storesAlike_aim (a : Area) (k : Nat) : StoresAlike (aimCursor a k) := fun s =>
  ⟨{ s.store.requestCommit with area := a, index := k },
    .trans s.store.alike_requestCommit ⟨rfl, rfl, rfl, rfl, rfl, rfl⟩, s.store.requestCommit_mem, .inl rfl⟩

theorem storesAlike_commit : StoresAlike commitBuffer := fun s =>
  ⟨_, s.store.alike_requestCommit, s.store.requestCommit_mem, .inl rfl⟩

theorem storesAlike_data (n : Nat) (ws : List Word) : StoresAlike (placeData n ws) := fun s => by
  obtain ⟨h, m⟩ := Store.alike_placeWords ws ({ s.store with verified := false }, 0)
  refine ⟨_, .trans (b := { s.store with verified := false }) ⟨rfl, rfl, rfl, rfl, rfl, rfl⟩ h, m, ?_⟩
  unfold placeData
  dsimp only
  split
  · exact .inl rfl
  · exact .inr ⟨_, rfl⟩

theorem acts_takeVerify (n target : Nat) (s : State) : Acts s (takeVerify n target s) := by
  unfold takeVerify
  split
  · split
    · exact Keeps.acts (keeps_notice s _ _ _ _)
    · refine acts_alike s s.store.alike_beginVerify ?_
      rw [show s.store.beginVerify.mem = s.store.mem from s.store.requestCommit_mem]
      exact id
  · exact .refl s

theorem acts_takeSwap (n target : Nat) (s : State) : Acts s (takeSwap n target s) := by
  unfold takeSwap
  split
  swap
  · exact .refl s
  split
  · exact Keeps.acts (keeps_notice s _ _ _ _)
  split
  · exact Keeps.acts (keeps_notice s _ _ _ _)
  split
  · exact Keeps.acts (keeps_notice s _ _ _ _)
  · exact acts_alike s ⟨rfl, rfl, rfl, rfl, rfl, rfl⟩ id

/-! ### Commits and verify slices completed (09 R170, R171) -/

theorem Store.alike_landed (st : Store) {cells : List MemCell} (h : st.inFlight = some (.commit cells)) :
    Store.Alike st (st.landed cells) := ⟨rfl, by rw [h]; rfl, rfl, rfl, rfl, rfl⟩

theorem acts_commitDone (s : State) : Acts s (commitDone s) := by
  unfold commitDone
  split
  swap
  · exact .refl s
  rename_i cells hf
  have hl := s.store.alike_landed hf
  have hmem : Memory.wf s.store.mem = true → Memory.wf (s.store.landed cells).mem = true :=
    Memory.writeAll_wf cells s.store.mem
  rw [Store.commitWritten_eq]
  split
  · refine acts_alike s (hl.trans (Store.alike_requestCommit _)) ?_
    rw [Store.requestCommit_mem]
    exact hmem
  · exact acts_alike s hl hmem

theorem Store.alike_unread (st : Store) {i : Nat} {d : Bool} (h : st.inFlight = some (.verifySlice i d)) :
    Store.Alike st { st with inFlight := none } := ⟨rfl, by rw [h]; rfl, rfl, rfl, rfl, rfl⟩

theorem endVerify_stores (ws : List Word) (s : State) (st : Store) : ∃ st' p,
    endVerify ws (s.withStore st) = (s.withStore st').post p ∧ Store.Alike st st' ∧ st'.mem = st.mem :=
  ⟨{ st with verify := none, verified := (validateBank s.conf.maxHaul s.conf.speedLimit ws).valid
             lastVerified := bankShow ws }, _, rfl, ⟨rfl, rfl, rfl, rfl, rfl, rfl⟩, rfl⟩

theorem acts_verifySliceDone (s : State) : Acts s (verifySliceDone s) := by
  unfold verifySliceDone
  split
  swap
  · exact .refl s
  rename_i i d hf
  have hu := s.store.alike_unread hf
  split
  · exact acts_alike s hu id
  unfold verifyRead
  dsimp only
  split
  · exact acts_alike s hu id
  split
  · exact acts_alike s (hu.trans (.trans (b := { s.store with inFlight := none, verify := some _ })
      ⟨rfl, rfl, rfl, rfl, rfl, rfl⟩ (Store.alike_request _ rfl))) id
  · obtain ⟨st, p, he, ha, hm⟩ := endVerify_stores _ s { s.store with inFlight := none }
    rw [he]
    exact acts_withStore_post s (hu.trans ha) hm p

end Sys2Proof.Machine
end

section
/-! What the acts of events do to the laws, those of the records among them: record writes, the swap and its slices, and the arming of a cue (09 R174 to R176, 03 R53). -/

namespace Sys2Proof.Machine

/-! ### What a write in flight excludes -/

section
variable {st : Store} (h : PortLaws st)
include h

theorem PortLaws.aloft_alone (hf : MemOp.isAloft st.inFlight = true) : .aloftWrite ∉ st.waiting := by
  have := h.oneAloft
  rw [hf, Bool.toNat_true] at this
  exact List.count_eq_zero.mp (by omega)

theorem PortLaws.flag_alone (hf : MemOp.isFlag st.inFlight = true) : .flagWrite ∉ st.waiting := by
  have := h.oneFlag
  rw [hf, Bool.toNat_true] at this
  exact List.count_eq_zero.mp (by omega)

theorem PortLaws.slice_alone (hf : MemOp.isCopySlice st.inFlight = true) : ∀ r ∈ st.waiting, r.isCopySlice = false := by
  have := h.oneSlice
  rw [hf, Bool.toNat_true] at this
  have hz : st.waiting.countP MemRequest.isCopySlice = 0 := by omega
  simpa using List.countP_eq_zero.mp hz

/-- No slice of a copy waits or is read where the bank copy has not begun, or its flag write is still to come. -/
theorem PortLaws.no_slices (hf : st.copy = none ∨ MemOp.isFlag st.inFlight = true) :
    (∀ r ∈ st.waiting, r.isCopySlice = false) ∧ MemOp.isCopySlice st.inFlight = false := by
  have hno : ¬((∃ i, .copySlice i ∈ st.waiting) ∨ MemOp.isCopySlice st.inFlight = true) := fun hs => by
    obtain ⟨h1, -, -, h4⟩ := h.slices hs
    rcases hf with hf | hf
    · rw [hf] at h1
      cases h1
    · rw [hf] at h4
      cases h4
  rw [not_or, Bool.not_eq_true] at hno
  refine ⟨fun r hr => ?_, hno.2⟩
  cases r with
  | copySlice i => exact absurd ⟨i, hr⟩ hno.1
  | _ => rfl

/-- With the port idle the laws ask no more than what waits. -/
theorem PortLaws.idle {b : Store} (hw : b.waiting = st.waiting) (hf : b.inFlight = none) (hc : b.copy = st.copy)
    (hg : b.flag = st.flag) : PortLaws b where
  oneAloft := by
    rw [hw, hf]
    exact le_trans (Nat.add_le_add_left (Nat.zero_le _) _) h.oneAloft
  oneLock := by
    rw [hw, hf]
    exact le_trans (Nat.add_le_add_left (Nat.zero_le _) _) h.oneLock
  oneFlag := by
    rw [hw, hf]
    exact le_trans (Nat.add_le_add_left (Nat.zero_le _) _) h.oneFlag
  oneSlice := by
    rw [hw, hf]
    exact le_trans (Nat.add_le_add_left (Nat.zero_le _) _) h.oneSlice
  flagValue v hv := by rw [hf] at hv; cases hv
  swapping := by
    rw [hw, hf, hc, hg]
    rintro (hs | hs | hs)
    · exact h.swapping (.inl hs)
    · cases hs
    · exact h.swapping (.inr (.inr hs))
  slices := by
    rw [hw, hf, hc, hg]
    rintro (hs | hs)
    · obtain ⟨h1, h2, h3, -⟩ := h.slices (.inl hs)
      exact ⟨h1, h2, h3, rfl⟩
    · cases hs

end

/-! ### Record writes completed (09 R176) -/

/-- The aloft record's write: where it set the record the lock record stood clear, or the aloft record was set already. -/
theorem acts_aloftWritten {s : State} (flyer free : Nat) {v : AloftRecord}
    (hf : s.store.inFlight = some (.aloftWrite v)) : Acts s (s.withStore (s.store.aloftWritten flyer free v)) where
  kept := kept_withStore s _ (Memory.writeAll_wf _ s.store.mem)
  records _ r := by
    have hal : MemOp.isAloft s.store.inFlight = true := by rw [hf]; rfl
    constructor
    · exact
        { port := r.port.idle rfl rfl rfl rfl
          copy := r.copy
          parked := r.parked
          lockedClear := r.lockedClear
          swapAtRest := r.swapAtRest
          lockWrite := fun c hc => by cases hc
          aloftWrite := fun w hw => by cases hw
          locking := fun ht _ => by
            by_contra hv
            exact ht (r.aloftWrite v hf hv).1
          order := fun _ _ hw => absurd hw (r.port.aloft_alone hal) }
    · refine .inl fun hne => ?_
      rcases r.lockAsked hne with hl | hl
      · exact .inl hl
      · rw [hf] at hl
        cases hl
  stored _ r h := by
    obtain ⟨hv, hl⟩ := h
    exact ⟨(r.aloftWrite v hf hv).2.resolve_left hl, hl⟩

/-- The lock record's write: where it set the record the aloft record stood clear. -/
theorem acts_lockWritten {s : State} (free : Nat) {v : Option Word} (hf : s.store.inFlight = some (.lockWrite v)) :
    Acts s (s.withStore (s.store.lockWritten free v)) where
  kept := kept_withStore s _ (Memory.writeAll_wf _ s.store.mem)
  records ha r := by
    have hlk : MemOp.isLock s.store.inFlight = true := by rw [hf]; rfl
    have htarget : v ≠ none → s.store.lockRec.target = v := fun hv => by
      obtain ⟨c, rfl⟩ := Option.ne_none_iff_exists'.mp hv
      exact r.lockWrite c hf
    have hclear : s.store.lockRec.target ≠ none → s.store.aloft.target = .clear := fun ht =>
      r.lockedClear (by rw [← r.copy]; exact Option.isSome_iff_ne_none.mpr ht)
    constructor
    · exact
        { port := r.port.idle rfl rfl rfl rfl
          copy := r.copy
          parked := r.parked
          lockedClear := r.lockedClear
          swapAtRest := r.swapAtRest
          lockWrite := fun c hc => by cases hc
          aloftWrite := fun w hw => by cases hw
          locking := fun ht _ => r.locking ht (.inr (.inr hlk))
          order := fun hv _ _ => .inr (.inr ⟨.inr rfl, hclear (by rw [htarget hv]; exact hv)⟩) }
    by_cases hsame : s.store.lockRec.target = v
    · exact .inl fun hne => absurd hsame hne
    · have hv : v = none := by
        by_contra hv
        exact hsame (htarget hv)
      have ht : s.store.lockRec.target ≠ none := hv ▸ hsame
      refine .inr ⟨hclear ht, fun harmed => ?_⟩
      have hfree := ha.lock_free (by rw [show s.axis.state = .armed from harmed]; decide)
        (by rw [show s.axis.state = .armed from harmed]; decide)
      rw [r.copy, hfree] at ht
      exact ht rfl
  stored _ r h := by
    obtain ⟨haloft, hv⟩ := h
    have hlk : MemOp.isLock s.store.inFlight = true := by rw [hf]; rfl
    obtain ⟨c, rfl⟩ := Option.ne_none_iff_exists'.mp hv
    exact absurd (r.locking (by rw [r.lockWrite c hf]; simp) (.inr (.inr hlk))) haloft

theorem Acts.thenFree {s t : State} (a : Acts s t) (n : Nat) : Acts s (t.withFreeCount n) :=
  a.then (Keeps.kept (keeps_withFreeCount t n)) fun _ => .of_eq rfl rfl rfl

theorem acts_recordWritten (s : State) : Acts s (recordWritten s) := by
  cases hf : s.store.inFlight with
  | none =>
    rw [show recordWritten s = s by simp [recordWritten, hf]]
    exact .refl s
  | some op =>
    cases op with
    | aloftWrite v =>
      rw [recordWritten_aloft hf]
      exact (acts_aloftWritten _ _ hf).thenFree _
    | lockWrite v =>
      rw [recordWritten_lock hf]
      exact (acts_lockWritten _ hf).thenFree _
    | _ =>
      rw [show recordWritten s = s by simp [recordWritten, hf]]
      exact .refl s

/-! ### The swap (09 R174, R175) -/

/-- An update of the swap's own fields, the records standing: what the laws of the records ask is that of the port and of the axis. -/
theorem acts_swapping {s : State} {st : Store} (haloft : st.aloft = s.store.aloft) (hrec : st.lockRec = s.store.lockRec)
    (hmem : Memory.wf s.store.mem = true → Memory.wf st.mem = true)
    (hw : ∀ r : MemRequest, r.category = 1 → (r ∈ st.waiting ↔ r ∈ s.store.waiting))
    (hlb : LockBefore s.store.waiting → LockBefore st.waiting)
    (hf : st.inFlight = s.store.inFlight ∨ st.inFlight = none ∧ MemOp.isLock s.store.inFlight = false)
    (hport : RecordLaws s → PortLaws st)
    (hrest : RecordLaws s → st.copy.isSome = true → s.axis.state ≠ .armed ∧ s.axis.state ≠ .flying) :
    Acts s (s.withStore st) where
  kept := kept_withStore s st hmem
  records _ r := by
    have hl : MemOp.isLock st.inFlight = MemOp.isLock s.store.inFlight := by
      rcases hf with hf | ⟨hf, hn⟩
      · rw [hf]
      · rw [hf, hn]
        rfl
    have hop : ∀ op, st.inFlight = some op → s.store.inFlight = some op := fun op ho => by
      rcases hf with hf | ⟨hf, -⟩
      · rw [← hf]
        exact ho
      · rw [hf] at ho
        cases ho
    constructor
    · constructor
      all_goals rw [State.withStore_store]
      case port => exact hport r
      case copy => rw [hrec]; exact r.copy
      case parked => rw [haloft]; exact r.parked
      case lockedClear => rw [haloft]; exact r.lockedClear
      case swapAtRest => exact hrest r
      case lockWrite => rw [hrec]; exact fun c hc => r.lockWrite c (hop _ hc)
      case aloftWrite => rw [hrec, haloft]; exact fun v hv => r.aloftWrite v (hop _ hv)
      case locking => rw [hrec, haloft, hw _ rfl, hl]; exact r.locking
      case order =>
        rw [hrec, haloft, hw _ rfl, hl]
        intro h1 h2 h3
        rcases r.order h1 h2 h3 with ho | ho | ⟨hg, hc⟩
        · exact .inl (hlb (lockBefore_of_idxOf h3 ho))
        · exact .inr (.inl ho)
        · refine .inr (.inr ⟨?_, hc⟩)
          rcases hf with hf | ⟨hf, -⟩
          · rw [hf]
            exact .inl hg
          · exact .inr hf
    · left
      unfold LockAsked
      rw [State.withStore_store, hrec, hw _ rfl, hl]
      exact r.lockAsked
  stored _ _ h := by
    unfold BothStored at *
    rw [State.withStore_store, haloft, hrec] at h
    exact h

/-- The swap flag's write completed: the copy's first slice is asked for. -/
theorem acts_swapFlagWritten (s : State) : Acts s (swapFlagWritten s) := by
  unfold swapFlagWritten
  split
  swap
  · exact .refl s
  rename_i v hf
  have hfl : MemOp.isFlag s.store.inFlight = true := by rw [hf]; rfl
  refine acts_swapping rfl rfl (Memory.write_wf s.store.mem 64 v) (fun q hq => ?_)
    (fun h => h.trans (List.sublist_append_left _ _)) (.inr ⟨rfl, by rw [hf]; rfl⟩) (fun r => ?_) (fun r => r.swapAtRest)
  · have hne : q ≠ .copySlice 0 := fun h => by rw [h] at hq; cases hq
    simp [Store.flagWritten, Store.request, hne]
  · obtain ⟨hno, -⟩ := r.port.no_slices (.inr hfl)
    have hflag := r.port.flag_alone hfl
    have hcopy := r.port.swapping (.inr (.inl hfl))
    have hv := r.port.flagValue v hf
    have hidle := r.port.idle (b := { s.store with inFlight := none }) rfl rfl rfl rfl
    exact
      { oneAloft := by simpa [Store.flagWritten, Store.request, List.count_cons] using hidle.oneAloft
        oneLock := by simpa [Store.flagWritten, Store.request, List.count_cons] using hidle.oneLock
        oneFlag := by simpa [Store.flagWritten, Store.request, List.count_cons] using hidle.oneFlag
        oneSlice := by
          have hz := List.countP_eq_zero.mpr (fun q hq => by simpa using hno q hq)
          simp [Store.flagWritten, Store.request, hz, MemRequest.isCopySlice, MemOp.isCopySlice]
        flagValue := fun w hw => by cases hw
        swapping := fun _ => hcopy
        slices := fun _ => ⟨hcopy, hv.symm, by simpa [Store.flagWritten, Store.request] using hflag, rfl⟩ }

/-- The words of a slice have joined the copy: the next is asked for, or the swap ends. -/
theorem acts_copySliceRead (s : State) : Acts s (copySliceRead s) := by
  unfold copySliceRead
  split
  swap
  · exact .refl s
  rename_i i hf
  have hsl : MemOp.isCopySlice s.store.inFlight = true := by rw [hf]; rfl
  unfold Store.copyRead
  dsimp only
  split
  · exact acts_swapping rfl rfl id (fun _ _ => Iff.rfl) id (.inr ⟨rfl, by rw [hf]; rfl⟩)
      (fun r => r.port.idle rfl rfl rfl rfl) (fun r => r.swapAtRest)
  rename_i ws hcopy
  split
  · refine acts_swapping rfl rfl id (fun q hq => ?_) (fun h => h.trans (List.sublist_append_left _ _))
      (.inr ⟨rfl, by rw [hf]; rfl⟩) (fun r => ?_) (fun r _ => r.swapAtRest (by rw [hcopy]; rfl))
    · have hne : q ≠ .copySlice (i + 1) := fun h => by rw [h] at hq; cases hq
      simp [Store.request, hne]
    · obtain ⟨h1, h2, h3, -⟩ := r.port.slices (.inr hsl)
      have hp := r.port.idle (b := { s.store with inFlight := none }) rfl rfl rfl rfl
      exact
        { oneAloft := by simpa [Store.request, List.count_cons] using hp.oneAloft
          oneLock := by simpa [Store.request, List.count_cons] using hp.oneLock
          oneFlag := by simpa [Store.request, List.count_cons] using hp.oneFlag
          oneSlice := by
            have hz := List.countP_eq_zero.mpr (fun q hq => by simpa using r.port.slice_alone hsl q hq)
            simp [Store.request, hz, MemRequest.isCopySlice, MemOp.isCopySlice]
          flagValue := fun w hw => by cases hw
          swapping := fun _ => rfl
          slices := fun _ => ⟨rfl, h2, by simpa [Store.request] using h3, rfl⟩ }
  · refine acts_swapping rfl rfl id (fun _ _ => Iff.rfl) id (.inr ⟨rfl, by rw [hf]; rfl⟩) (fun r => ?_)
      (fun _ h => by cases h)
    obtain ⟨-, h2, h3, -⟩ := r.port.slices (.inr hsl)
    have hp := r.port.idle (b := { s.store with inFlight := none }) rfl rfl rfl rfl
    refine ⟨hp.oneAloft, hp.oneLock, hp.oneFlag, hp.oneSlice, hp.flagValue, ?_, ?_⟩
    · rintro (hs | hs | hs)
      · exact absurd hs h3
      · cases hs
      · exact absurd h2 hs
    · rintro (⟨j, hj⟩ | hs)
      · cases r.port.slice_alone hsl _ hj
      · cases hs

/-- A swap begins at rest, with no copy under way; its flag's write is yet to be asked for. -/
theorem acts_enterSwapping {s : State} (h : swapReady s = true) : Acts s (s.withStore s.store.enterSwapping) := by
  unfold swapReady at h
  simp only [Bool.and_eq_true, Bool.not_eq_true', Store.swapping, Option.isSome_eq_false_iff, Option.isNone_iff_eq_none] at h
  obtain ⟨⟨⟨hrest, -⟩, -⟩, hcopy⟩ := h
  obtain ⟨h1, h2, -⟩ := AxisState.atRest.ne hrest
  refine acts_swapping rfl rfl id (fun _ _ => Iff.rfl) id (.inl rfl) (fun r => ?_) (fun _ _ => ⟨h1, h2⟩)
  obtain ⟨hw, hs⟩ := r.port.no_slices (.inl hcopy)
  have hflag : MemOp.isFlag s.store.inFlight = false := by
    rw [← Bool.not_eq_true]
    intro hf
    have hsome := r.port.swapping (.inr (.inl hf))
    rw [hcopy] at hsome
    cases hsome
  refine ⟨r.port.oneAloft, r.port.oneLock, r.port.oneFlag, r.port.oneSlice, fun v hv => ?_, fun _ => rfl, ?_⟩
  · have hv' : s.store.inFlight = some (.flagWrite v) := hv
    rw [hv'] at hflag
    cases hflag
  · rintro (⟨j, hj⟩ | hj)
    · cases hw _ hj
    · have hj' : MemOp.isCopySlice s.store.inFlight = true := hj
      rw [hs] at hj'
      cases hj'

theorem acts_beginSwap (s : State) : Acts s (beginSwap s) := by
  unfold beginSwap
  split
  swap
  · exact .refl s
  split
  swap
  · exact .refl s
  rename_i hr
  split
  · exact acts_enterSwapping hr
  · exact acts_withStore_post s (st := { s.store with swapPending := none }) ⟨rfl, rfl, rfl, rfl, rfl, rfl⟩ rfl _

/-! ### The taking of a cue (03 R52, R53) -/

theorem takeHead_store (h : CueEntry) (s : State) : (takeHead h s).store = s.store := by
  unfold takeHead
  split
  · rfl
  · rw [arm_eq, armPosts_eq]
    split <;> rfl

theorem acts_taking {s t : State} (k : KeepsBut [.asked] s t) (hst : t.store = s.store) : Acts s t :=
  KeepsBut.acts k (KeepsBut.kept k (by decide) (by decide)) fun _ r =>
    .inl (lockAsked_of_store r.lockAsked (by rw [hst]) (by rw [hst]) (by rw [hst]))

theorem acts_takeUntriggered (s : State) : Acts s (takeUntriggered s) := by
  refine acts_taking (keeps_takeUntriggered s) ?_
  unfold takeUntriggered
  split
  · split
    · exact takeHead_store _ s
    · rfl
  · rfl

theorem acts_chainEnds (s : State) : Acts s (chainEnds s) := by
  refine acts_taking (keeps_chainEnds s) ?_
  unfold chainEnds
  split
  · split
    · exact takeHead_store _ s
    · rfl
  · rfl

/-! ### A copied entry (02 R36) -/

theorem acts_takeTableEntry (n q i : Nat) (k : Key) (b : Box) (s : State) : Acts s (takeTableEntry n q i k b s) := by
  unfold takeTableEntry
  have ha : Keeps s (if n = s.strap then answerNext q (i + 1) s else s) := by
    split
    · exact keeps_answerNext q (i + 1) s
    · exact .refl _ s
  dsimp only
  generalize (if n = s.strap then answerNext q (i + 1) s else s) = v at ha
  split
  swap
  · exact Keeps.acts ha
  rename_i hc
  have hp : v.sync.phase = .copying := by simpa using (Bool.and_eq_true_iff.mp hc).2
  split
  · rename_i ho
    have hk := (Keeps.but ha [.table]).trans (keeps_copyEntry hp k b)
    exact KeepsBut.acts hk
      ((Keeps.kept ha).trans ((keeps_copyEntry hp k b).kept_of (tableBounded_copyEntry hp ho)))
      fun hx r => hk.asked (by decide) hx r.portRecords (.inl r.lockAsked)
  · exact Keeps.acts (ha.trans (keeps_failAttempt fun _ => by rw [hp]; rfl))

end Sys2Proof.Machine
end

section
/-! Every command keeps the laws: the end of an event, deliveries, the start sequence and the restart line (07 R140; 11 R185 to R190). -/

namespace Sys2Proof.Machine

/-! ### Between events -/

/-- From `s` to `t`, both between events, every law is kept. -/
structure Preserves (s t : State) : Prop where
  kept : Kept s t
  records : AxisLaws s → RecordLaws s → RecordLaws t
  stored : AxisLaws s → RecordLaws s → BothStored t → BothStored s

theorem Preserves.refl (s : State) : Preserves s s := ⟨.refl s, fun _ => id, fun _ _ => id⟩

theorem Preserves.trans {s t u : State} (a : Preserves s t) (b : Preserves t u) : Preserves s u where
  kept := a.kept.trans b.kept
  records hx hr := b.records (a.kept.axis hx) (a.records hx hr)
  stored hx hr h := a.stored hx hr (b.stored (a.kept.axis hx) (a.records hx hr) h)

/-- A change of blocks other than the store, the lock and the axis. -/
theorem Keeps.preserves {s t : State} (k : Keeps s t) (hs : t.store = s.store) (hl : t.lock = s.lock)
    (hx : t.axis = s.axis) : Preserves s t where
  kept := Keeps.kept k
  records _ r := (r.portRecords.congr hs hl (by rw [hx])).recordLaws
    (lockAsked_of_store r.lockAsked (by rw [hs]) (by rw [hs]) (by rw [hs]))
  stored _ _ h := by
    unfold BothStored at *
    rw [hs] at h
    exact h

theorem Preserves.acts {s t u : State} (p : Preserves s t) (a : Acts t u) : Acts s u where
  kept := p.kept.trans a.kept
  records hx hr := a.records (p.kept.axis hx) (p.records hx hr)
  stored hx hr h := p.stored hx hr (a.stored (p.kept.axis hx) (p.records hx hr) h)

/-! ### The end of an event -/

/-- What every event ends with, before the port is served. -/
def settled (s : State) : State := trackReclaim (trackChain (drainReports (reportFuel s.line) s))

theorem finish_eq (s : State) : finish s = (settled s).withStore (Store.servePort (settled s).store) := rfl

theorem Acts.settled {s t : State} (a : Acts s t) : Acts s (settled t) := by
  have k := keeps_drainReports (reportFuel t.line) t
  refine a.then (Keeps.kept ((k.trans (keeps_trackChain _)).trans (keeps_trackReclaim _))) fun hx => ?_
  exact ((eases_drainReports _ hx).trans (eases_trackChain _)).trans (eases_trackReclaim _)

/-- An event's act and its end keep every law. -/
theorem Acts.finish {s t : State} (a : Acts s t) : Preserves s (finish t) := by
  have b := a.settled
  have hsame := (Store.servePort_served (Machine.settled t).store).same
  rw [finish_eq]
  exact
    { kept := b.kept.trans (kept_withStore _ _ (by rw [hsame.mem]; exact id))
      records := fun hx hr => by
        obtain ⟨h1, h2⟩ := b.records hx hr
        exact h1.served h2
      stored := fun hx hr h => by
        refine b.stored hx hr ?_
        unfold BothStored at *
        rw [State.withStore_store, hsame.aloft, hsame.lockRec] at h
        exact h }

theorem preserves_event {act : State → State} (ha : ∀ s, Acts s (act s)) (s : State) :
    Preserves s (event act s) := by
  unfold event
  split
  · exact .refl s
  · exact (ha s).finish

theorem preserves_heard (n : Fin 48) (p : Option Post) (s : State) : Preserves s (heard n p s) :=
  Keeps.preserves (keeps_heard n p s) rfl rfl rfl

theorem acts_takeDelivery {act : State → State} (ha : ∀ s, Acts s (act s)) (n : Fin 48) (p : Option Post) (s : State) :
    Acts s (takeDelivery n p act s) := by
  have hact : Acts s (act (heard n p s)) := (preserves_heard n p s).acts (ha _)
  unfold takeDelivery
  dsimp only
  split
  · exact hact.then (Keeps.kept (keeps_resendOwed _ _)) fun _ => eases_resendOwed _ _
  · exact hact

theorem preserves_deliver {act : State → State} (ha : ∀ s, Acts s (act s)) (n : Fin 48) (p : Option Post) (s : State) :
    Preserves s (deliver n p act s) := by
  unfold deliver
  split
  · exact .refl s
  · split
    · exact .refl s
    · exact .refl s
    · exact (Keeps.acts (keeps_joinAtPost s)).finish
    · exact (acts_takeDelivery ha n p s).finish
    · exact (acts_takeDelivery ha n p s).finish

/-! ### The start (11 R185 to R190) -/

/-- Every law but that of the memory. -/
structure Lawful (t : State) : Prop where
  line : t.line.Ordered
  cues : t.cue.queue.length ≤ 8
  waiting : t.sync.waitList.length ≤ 4
  changes : t.sync.changes.length ≤ 8
  table : TableBounded t
  slots : SlotsFit t
  axis : AxisLaws t
  register : RegisterLaws t
  records : RecordLaws t

theorem Lawful.kept {s t : State} (h : Lawful t) (hm : MemoryCanonical s → MemoryCanonical t) : Kept s t :=
  ⟨hm, fun _ => h.line, fun _ => h.cues, fun _ => h.waiting, fun _ => h.changes, fun _ => h.table, fun _ => h.slots,
    fun _ => h.axis, fun _ _ => h.register⟩

theorem lawful_held (m : Memory) (n : Nat) (q : List Instr) : Lawful (State.held m n q) :=
  ⟨Line.ordered_of_empty rfl, Nat.zero_le _, Nat.zero_le _, Nat.zero_le _, tableBounded_held m n q, slotsFit_held m n q,
    axisLaws_held m n q, registerLaws_held m n q, recordLaws_held m n q⟩

theorem tornMemory_wf {st : Store} (free : Nat) (h : Memory.wf st.mem = true) :
    Memory.wf (tornMemory st free) = true := Memory.writeAll_wf _ st.mem h

theorem kept_hold (s : State) : Kept s (hold s) := (lawful_held _ _ _).kept (tornMemory_wf s.freeCount)

theorem preserves_hold (s : State) : Preserves s (hold s) :=
  ⟨kept_hold s, fun _ _ => recordLaws_held _ _ _, fun _ _ h => absurd rfl h.1⟩

theorem lawful_joinListenOnly (strap : Nat) (pin : Bool) (s : State) : Lawful (joinListenOnly (starting strap pin s)) := by
  have h := lawful_held s.store.mem s.freeCount s.pending
  exact
    { line := Line.ordered_of_empty rfl
      cues := h.cues
      waiting := h.waiting
      changes := h.changes
      table := ⟨Nat.zero_le _, h.table.2⟩
      slots := h.slots
      axis := ⟨h.axis.armed, h.axis.flying, h.axis.engine, h.axis.origin, h.axis.faulted, h.axis.brake,
        h.axis.lockKept, h.axis.locked, h.axis.showStop⟩
      register := by
        have hr := h.register
        exact ⟨fun hx => absurd hx (by simp [joinListenOnly, starting, State.held, Axis.start]),
          fun hx => absurd hx (by simp [joinListenOnly, starting, State.held, Axis.start]),
          fun hx => absurd rfl hx, hr.attempt, hr.resting⟩
      records := by
        have hr := h.records
        have hp := hr.port
        exact ⟨⟨hp.oneAloft, hp.oneLock, hp.oneFlag, hp.oneSlice, hp.flagValue, hp.swapping, hp.slices⟩, hr.copy,
          hr.parked, hr.lockedClear, hr.swapAtRest, hr.lockAsked, hr.lockWrite, hr.aloftWrite, hr.locking, hr.order⟩ }

theorem startingAxis_cases (c : StationConfig) (locked : Bool) (haul : Int) :
    startingAxis c locked haul = .locked ∧ locked = true
      ∨ AxisState.atRest (startingAxis c locked haul) = true ∧ locked = false := by
  unfold startingAxis
  cases locked with
  | true => exact .inl ⟨rfl, rfl⟩
  | false =>
    refine .inr ⟨?_, rfl⟩
    rw [if_neg (by decide)]
    split <;> rfl

section
variable (c : StationConfig) (pin : Bool) (inputs : WinchInputs) (strap : Nat) (s : State)

/-- The axis starts LOCKED where the lock record is read set, and at rest otherwise (11 R190). -/
theorem joinConfigured_axis :
    (joinConfigured c pin inputs (starting strap pin s)).axis.state = .locked
        ∧ (joinConfigured c pin inputs (starting strap pin s)).lock.copy.isSome = true
      ∨ AxisState.atRest (joinConfigured c pin inputs (starting strap pin s)).axis.state = true
        ∧ (joinConfigured c pin inputs (starting strap pin s)).lock.copy = none := by
  rcases startingAxis_cases c (loadStore c pin s.store.mem).lockRec.stored.isSome inputs.haul with ⟨hx, hl⟩ | ⟨hx, hl⟩
  · exact .inl ⟨hx, hl⟩
  · exact .inr ⟨hx, Option.not_isSome_iff_eq_none.mp (Bool.eq_false_iff.mp hl)⟩

theorem axisLaws_joinConfigured : AxisLaws (joinConfigured c pin inputs (starting strap pin s)) := by
  rcases joinConfigured_axis c pin inputs strap s with ⟨hx, hl⟩ | ⟨hx, hl⟩
  · exact
      { armed := iff_of_false (by rw [hx]; decide) (currentIs_none rfl _)
        flying := iff_of_false (by rw [hx]; decide) (currentIs_none rfl _)
        engine := iff_of_false (by rw [hx]; decide) (fun h => h rfl)
        origin := fun o ho => by cases ho
        faulted := iff_of_false (by rw [hx]; decide) (by rintro ⟨⟩)
        brake := fun _ _ _ => ⟨rfl, rfl⟩
        lockKept := fun _ => .inl hx
        locked := fun _ => hl
        showStop := fun h => by cases h }
  · exact .of_rest hx rfl rfl (fun o ho => by cases ho) rfl ⟨rfl, rfl⟩ hl (fun h => by cases h)

theorem portLaws_joinConfigured : PortLaws (joinConfigured c pin inputs (starting strap pin s)).store where
  oneAloft := Nat.zero_le 1
  oneLock := Nat.zero_le 1
  oneFlag := Nat.zero_le 1
  oneSlice := Nat.zero_le 1
  flagValue _ h := by cases h
  swapping h := by
    rcases h with h | h | h
    · cases h
    · cases h
    · exact absurd rfl h
  slices h := by
    rcases h with ⟨_, h⟩ | h
    · cases h
    · cases h

theorem recordLaws_joinConfigured : RecordLaws (joinConfigured c pin inputs (starting strap pin s)) := by
  have hclear : (joinConfigured c pin inputs (starting strap pin s)).axis.state = .parked
      ∨ (joinConfigured c pin inputs (starting strap pin s)).axis.state = .locked →
      (joinConfigured c pin inputs (starting strap pin s)).store.aloft.target = .clear := fun hx =>
    congrArg Record.target (if_pos hx)
  exact
    { port := portLaws_joinConfigured c pin inputs strap s
      copy := rfl
      parked := fun hx => hclear (.inl hx)
      lockedClear := fun hl => by
        rcases joinConfigured_axis c pin inputs strap s with ⟨hx, -⟩ | ⟨-, hn⟩
        · exact hclear (.inr hx)
        · rw [hn] at hl
          cases hl
      swapAtRest := fun h => by cases h
      lockAsked := fun h => absurd rfl h
      lockWrite := fun _ h => by cases h
      aloftWrite := fun _ h => by cases h
      locking := fun _ h => by
        rcases h with h | h | h
        · exact absurd rfl h
        · cases h
        · cases h
      order := fun _ _ h => by cases h }

theorem lawful_joinConfigured : Lawful (joinConfigured c pin inputs (starting strap pin s)) where
  line := Line.ordered_of_empty rfl
  cues := Nat.zero_le _
  waiting := Nat.zero_le _
  changes := Nat.zero_le _
  table := ⟨Nat.zero_le _, fun h => by cases h⟩
  slots := by simp [SlotsFit, joinConfigured, State.members, State.conf]
  axis := axisLaws_joinConfigured c pin inputs strap s
  register := by
    have hx : ∀ a, a = .armed ∨ a = .flying → (joinConfigured c pin inputs (starting strap pin s)).axis.state ≠ a := by
      rcases joinConfigured_axis c pin inputs strap s with ⟨hx, -⟩ | ⟨hx, -⟩
      · rw [hx]
        rintro _ (rfl | rfl) <;> decide
      · obtain ⟨h1, h2, -⟩ := AxisState.atRest.ne hx
        rintro _ (rfl | rfl)
        · exact h1
        · exact h2
    exact
      { register := fun h => by
          rcases h with h | h
          · exact absurd h (hx _ (.inl rfl))
          · exact absurd h (hx _ (.inr rfl))
        runKey := fun h => absurd h (hx _ (.inr rfl))
        syncing := fun h => absurd rfl h
        attempt := fun h => by cases h
        resting := fun h => by cases h }
  records := recordLaws_joinConfigured c pin inputs strap s

end

theorem startHeld_laws (strap : Nat) (pin : Bool) (inputs : WinchInputs) (s : State) :
    Kept s (startHeld strap pin inputs s) ∧ RecordLaws (startHeld strap pin inputs s) := by
  cases hc : readConfig s.store.mem strap with
  | none =>
    rw [startHeld_listenOnly hc]
    have h := lawful_joinListenOnly strap pin s
    exact ⟨h.kept id, h.records⟩
  | some c =>
    rw [startHeld_configured hc]
    have h := lawful_joinConfigured c pin inputs strap s
    have p := (Acts.refl (joinConfigured c pin inputs (starting strap pin s))).finish
    exact ⟨(h.kept (s := s) id).trans p.kept, p.records h.axis h.records⟩

/-! ### Every command -/

/-- A LOAD_AIM, LOAD_DATA or CUE that is ill-coded acts on nothing. -/
theorem acts_id (s : State) : Acts s (id s) := .refl s

theorem acts_loadAim (n target a k : Nat) (s : State) :
    Acts s ((match areaOfCode a with
      | some area => takeLoad n target (aimCursor area k)
      | none => id) s) := by
  cases areaOfCode a with
  | none => exact .refl s
  | some area => exact acts_takeLoad (storesAlike_aim area k) n target s

theorem acts_loadData (n target : Nat) (ws : List Word) (s : State) :
    Acts s ((if dataFits ws then takeLoad n target (placeData n ws) else id) s) := by
  split
  · exact acts_takeLoad (storesAlike_data n ws) n target s
  · exact .refl s

theorem acts_cue (a b : Nat) (e : CueEntry) (s : State) :
    Acts s ((if cueIllCoded a b then id else takeCuePost e) s) := by
  split
  · exact .refl s
  · exact Keeps.acts (keeps_takeCuePost e s)

theorem acts_ready (n f sh sg : Nat) (ms : List Nat) (s : State) :
    Acts s ((if readyIllCoded ms then id else takeReady n f sh sg ms) s) := by
  split
  · exact .refl s
  · exact Keeps.acts (keeps_takeReady n f sh sg ms s)

/-- An event's act that keeps the laws in their form within an event. -/
theorem preserves_event_of {act : State → State} (h : ∀ s, Keeps s (act s)) (s : State) : Preserves s (event act s) :=
  preserves_event (fun u => Keeps.acts (h u)) s

theorem preserves_deliver_of {act : State → State} (h : ∀ s, Keeps s (act s)) (n : Fin 48) (p : Option Post) (s : State) :
    Preserves s (deliver n p act s) := preserves_deliver (fun u => Keeps.acts (h u)) n p s

/-- Every command but START_SEQUENCE keeps every law. -/
theorem exec_preserves {i : Instr} (hi : ∀ a b c, i ≠ .startSequence a b c) (s : State) :
    ∃ t, exec i s = .next t ∧ Preserves s t := by
  cases i
  case startSequence a b c => exact absurd rfl (hi a b c)
  case restartAssert => exact ⟨_, rfl, preserves_hold s⟩
  case axisSample i => exact ⟨_, rfl, preserves_event_of (keeps_sample i) s⟩
  case stepEnd => exact ⟨_, rfl, preserves_event_of keeps_endStep s⟩
  case brakeConfirmationExpiry => exact ⟨_, rfl, preserves_event_of keeps_confirmBrake s⟩
  case postBegin cs => exact ⟨_, rfl, preserves_event_of (keeps_contend cs) s⟩
  case postSpoiled f => exact ⟨_, rfl, preserves_event_of (keeps_spoil f) s⟩
  case unfittingPost n raw => exact ⟨_, rfl, preserves_deliver acts_id n _ s⟩
  case halt n scope r => exact ⟨_, rfl, preserves_deliver_of (keeps_takeHalt scope) n _ s⟩
  case clearStop n => exact ⟨_, rfl, preserves_deliver_of keeps_takeClearStop n _ s⟩
  case claim n k b => exact ⟨_, rfl, preserves_deliver_of (keeps_takeChange _) n _ s⟩
  case release n k => exact ⟨_, rfl, preserves_deliver_of (keeps_takeChange _) n _ s⟩
  case sync n q r => exact ⟨_, rfl, preserves_deliver_of (keeps_takeSync _ q r) n _ s⟩
  case tableStart n q g k => exact ⟨_, rfl, preserves_deliver_of (keeps_takeTableStart _ q g k) n _ s⟩
  case tableEntry n q j k b => exact ⟨_, rfl, preserves_deliver (acts_takeTableEntry _ q j k b) n _ s⟩
  case tableEnd n q k => exact ⟨_, rfl, preserves_deliver_of (keeps_takeTableEnd _ q k) n _ s⟩
  case cue n f sh sg r ts tg d => exact ⟨_, rfl, preserves_deliver (acts_cue ts tg _) n _ s⟩
  case drop n f sh sg => exact ⟨_, rfl, preserves_deliver_of (keeps_takeDrop _ f sh sg) n _ s⟩
  case ready n f sh sg ms => exact ⟨_, rfl, preserves_deliver (acts_ready _ f sh sg ms) n _ s⟩
  case unready n f sh sg => exact ⟨_, rfl, preserves_deliver_of (keeps_takeUnready _ sh sg) n _ s⟩
  case done n f sg r => exact ⟨_, rfl, preserves_deliver_of (keeps_takeDone _ sg) n _ s⟩
  case cut n f sg m st r => exact ⟨_, rfl, preserves_deliver_of (keeps_takeCut _ sg r) n _ s⟩
  case presence n p => exact ⟨_, rfl, preserves_deliver_of (keeps_takePresence n p) n _ s⟩
  case notice n m => exact ⟨_, rfl, preserves_deliver acts_id n _ s⟩
  case ack n target ks => exact ⟨_, rfl, preserves_deliver_of (keeps_takeAck target ks) n _ s⟩
  case lock n target fl code => exact ⟨_, rfl, preserves_deliver_of (keeps_takeLockPost _ target fl code) n _ s⟩
  case unlock n target fl code => exact ⟨_, rfl, preserves_deliver_of (keeps_takeLockPost _ target fl code) n _ s⟩
  case master n target fl code => exact ⟨_, rfl, preserves_deliver_of (keeps_takeLockPost _ target fl code) n _ s⟩
  case swap n target => exact ⟨_, rfl, preserves_deliver (acts_takeSwap _ target) n _ s⟩
  case verify n target => exact ⟨_, rfl, preserves_deliver (acts_takeVerify _ target) n _ s⟩
  case verified n a b c => exact ⟨_, rfl, preserves_deliver acts_id n _ s⟩
  case loadAim n target a k => exact ⟨_, rfl, preserves_deliver (acts_loadAim _ target a k) n _ s⟩
  case loadData n target ws => exact ⟨_, rfl, preserves_deliver (acts_loadData _ target ws) n _ s⟩
  case loadCommit n target => exact ⟨_, rfl, preserves_deliver (acts_takeLoad storesAlike_commit _ target) n _ s⟩
  case lapse n => exact ⟨_, rfl, preserves_event_of (keeps_lapseStation n) s⟩
  case presenceTimerExpiry => exact ⟨_, rfl, preserves_event_of keeps_presenceDue s⟩
  case lineOffTimerExpiry => exact ⟨_, rfl, preserves_event_of keeps_lineOffEnds s⟩
  case joinSilenceExpiry => exact ⟨_, rfl, preserves_event_of keeps_silenceEnds s⟩
  case aloneWindowExpiry => exact ⟨_, rfl, preserves_event_of keeps_aloneEnds s⟩
  case attemptTimerExpiry => exact ⟨_, rfl, preserves_event_of keeps_attemptEnds s⟩
  case retryTimerExpiry => exact ⟨_, rfl, preserves_event_of keeps_retryEnds s⟩
  case readyWaitExpiry => exact ⟨_, rfl, preserves_event_of keeps_readyWaitEnds s⟩
  case spaceWaitExpiry => exact ⟨_, rfl, preserves_event_of keeps_spaceWaitEnds s⟩
  case chainDelayExpiry => exact ⟨_, rfl, preserves_event acts_chainEnds s⟩
  case takeCue => exact ⟨_, rfl, preserves_event acts_takeUntriggered s⟩
  case resync => exact ⟨_, rfl, preserves_event_of keeps_beginResync s⟩
  case reClaim => exact ⟨_, rfl, preserves_event_of keeps_postReclaim s⟩
  case swapBegin => exact ⟨_, rfl, preserves_event acts_beginSwap s⟩
  case recordWriteCompletion => exact ⟨_, rfl, preserves_event acts_recordWritten s⟩
  case swapFlagWriteCompletion => exact ⟨_, rfl, preserves_event acts_swapFlagWritten s⟩
  case bankCopySliceCompletion => exact ⟨_, rfl, preserves_event acts_copySliceRead s⟩
  case loadCommitCompletion => exact ⟨_, rfl, preserves_event acts_commitDone s⟩
  case verifySliceCompletion => exact ⟨_, rfl, preserves_event acts_verifySliceDone s⟩
  case lineIdleSeen => exact ⟨_, rfl, preserves_event_of keeps_seeIdle s⟩

end Sys2Proof.Machine
end

section
/-! The step keeps every law. -/

namespace Sys2Proof.Machine

theorem preserves_withPending (s : State) (q : List Instr) : Preserves s (s.withPending q) :=
  Keeps.preserves (keeps_withPending s q) rfl rfl rfl

/-- START_SEQUENCE, given to a held or a running part, leaves the laws whole. -/
theorem exec_start_laws (strap : Fin 32) (pin : Bool) (inputs : WinchInputs) (s : State) :
    ∃ t, exec (.startSequence strap pin inputs) s = .next t ∧ Kept s t ∧ RecordLaws t := by
  cases hp : s.power with
  | held =>
    obtain ⟨hk, hr⟩ := startHeld_laws strap.val pin inputs s
    exact ⟨_, exec_start_held hp strap pin inputs, hk, hr⟩
  | running =>
    obtain ⟨hk, hr⟩ := startHeld_laws strap.val pin inputs (hold s)
    exact ⟨_, exec_start_running hp strap pin inputs, (kept_hold s).trans hk, hr⟩

/-- A step keeps every law, but that START_SEQUENCE reads the records as it finds them. -/
theorem step_laws {s t : State} (h : step s = .next t) :
    Preserves s t ∨ Kept s t ∧ RecordLaws t ∧ ∃ a b c rest, s.pending = .startSequence a b c :: rest := by
  cases hp : s.pending with
  | nil =>
    rw [show step s = .next s by rw [step, hp]] at h
    cases h
    exact .inl (.refl s)
  | cons i rest =>
    rw [show step s = exec i (s.withPending rest) by rw [step, hp]] at h
    by_cases hi : ∃ a b c, i = .startSequence a b c
    · obtain ⟨a, b, c, rfl⟩ := hi
      obtain ⟨u, hu, hk, hr⟩ := exec_start_laws a b c (s.withPending rest)
      rw [hu] at h
      cases h
      exact .inr ⟨(preserves_withPending s rest).kept.trans hk, hr, a, b, c, rest, rfl⟩
    · obtain ⟨u, hu, hk⟩ := exec_preserves (i := i) (fun a b c he => hi ⟨a, b, c, he⟩) (s.withPending rest)
      rw [hu] at h
      cases h
      exact .inl ((preserves_withPending s rest).trans hk)

theorem step_kept {s t : State} (h : step s = .next t) : Kept s t := by
  rcases step_laws h with hk | ⟨hk, -⟩
  · exact hk.kept
  · exact hk

end Sys2Proof.Machine

open Sys2Proof Sys2Proof.Machine

/-- Settles O56: every write of the memory, a write cut short among them, keeps its form. -/
theorem stepKeepsMemoryCanonical : Obligations.StepKeepsMemoryCanonical :=
  fun _ _ hm h => (step_kept h).memory hm

/-- Settles O57: each operation of an event keeps the bounds, the evaluation of the pending changes at a copy's end counted whole. -/
theorem stepKeepsBounds : Obligations.StepKeepsBounds := by
  refine ⟨fun s t hq h => ?_, fun s t ht h => (step_kept h).table ht, fun s t hs h => (step_kept h).slots hs⟩
  obtain ⟨hlen, hage, hord, hcues, hwait, hchg⟩ := hq
  have k := step_kept h
  obtain ⟨hlen', hage', hord'⟩ := k.line ⟨hlen, hage, hord⟩
  exact ⟨hlen', hage', hord', k.cues hcues, k.waiting hwait, k.changes hchg⟩

/-- Settles O58: the laws of the axis are kept by every operation, those of the register and the run beside them. -/
theorem stepKeepsAxisLaws : Obligations.StepKeepsAxisLaws := by
  refine ⟨fun s t ha h => (step_kept h).axis ha, fun s t ha hr h => ?_⟩
  have k := step_kept h
  have ha' := k.axis ha
  have hr' := k.register ha hr
  refine ⟨hr', fun hf => ⟨hr'.register (.inr hf), ?_⟩⟩
  obtain ⟨c, hc, hp⟩ := ha'.flying.mp hf
  obtain ⟨d, hd, hk⟩ := hr'.runKey hf
  obtain rfl : c = d := Option.some.inj (hc.symm.trans hd)
  exact ⟨c, hc, hp, hk⟩

/-- Settles O59: an event's act keeps the laws up to what serving the port at its end restores. -/
theorem stepKeepsRecordLaws : Obligations.StepKeepsRecordLaws := by
  intro s t ha hr h
  rcases step_laws h with hk | ⟨-, hr', a, b, c, rest, hp⟩
  · exact ⟨hk.records ha hr, fun hb => .inl (hk.stored ha hr hb)⟩
  · exact ⟨hr', fun _ => .inr ⟨a, b, c, rest, hp⟩⟩
end
